-- ==== Sys2Proof/Word.lean ====
section
/-! DEFINITION. The words of the Causen CL40: one byte of a frame, and the 16-bit and 32-bit counts the host reads. -/

namespace Sys2Proof

/-- One byte of a host frame or one character value of a field-line frame (R74, R172). -/
abbrev Byte := BitVec 8

/-- A 16-bit count: fault overflow, notices dropped; a CRC register (R137, R165, R191). -/
abbrev Half := BitVec 16

/-- A 32-bit count: sweep number, roster generation, the counters (spec/00, Counters). -/
abbrev Word := BitVec 32

end Sys2Proof
end

