-- ==== Sys2Proof/Syntax.lean ====
section
/-! DEFINITION. The commands of the CL40: one constructor per row of spec/opcode_table.json. Operands are
what the frame's fields or the event carry, before any check. -/

namespace Sys2Proof

/-- One roster entry as STAGE_PUT carries it (spec/12, section 12.2): the fields of R3 before their
checks. `mode` is bits 0..1 of the entry flags, `spare` their bits 4..7; label present is bit 3. -/
structure EntryArg where
  address : Nat
  classCode : Nat
  inWidth : Nat
  outWidth : Nat
  divisor : Nat
  missLimit : Nat
  mode : Nat
  startDisabled : Bool
  spare : Nat
  pattern : List Byte
  label : Option (List Byte)
  deriving DecidableEq, Repr

/-- The seven bytes of STAGE_HEADER: the presence mask and the five header fields (section 12.2). -/
structure HeaderArg where
  mask : Byte
  speed : Nat
  window : Nat
  repeats : Nat
  budget : Nat
  policy : Nat
  deriving DecidableEq, Repr

/-- One item of WRITE_OUTPUTS: a station address and a run of bytes (R100). -/
structure OutputItem where
  address : Nat
  bytes : List Byte
  deriving DecidableEq, Repr

/-- The fields of SUBMIT (R117). -/
structure SubmitArg where
  address : Nat
  service : Nat
  deadline : Nat
  data : List Byte
  deriving DecidableEq, Repr

/-- A character received on the field line: its eight data bits, its parity bit, and the level found at
its stop bit, set for high (R74). -/
structure FieldChar where
  value : Byte
  parity : Bool
  stop : Bool
  deriving DecidableEq, Repr

/-- The commands. A host request carries the tag of its frame; an event carries what it brings. -/
inductive Instr where
  | identify (tag : Byte)
  | deviceReset (tag : Byte)
  | setBaud (tag : Byte) (rate : Nat)
  | readCounters (tag : Byte)
  | clearCounters (tag : Byte)
  | stagePut (tag : Byte) (entry : EntryArg)
  | stageRemove (tag : Byte) (address : Nat)
  | stageClear (tag : Byte)
  | stageHeader (tag : Byte) (header : HeaderArg)
  | stageRevert (tag : Byte)
  | readRosterSingle (tag : Byte) (source address : Nat)
  | readRosterRun (tag : Byte) (source start : Nat)
  | commit (tag : Byte)
  | lineStart (tag : Byte)
  | lineStop (tag : Byte)
  | startSweep (tag : Byte) (mode value : Nat)
  | stopSweep (tag : Byte)
  | readSweepStatus (tag : Byte)
  | startSurvey (tag : Byte)
  | readSurvey (tag : Byte) (start compare : Nat)
  | disableStation (tag : Byte) (address : Nat)
  | enableStation (tag : Byte) (address : Nat)
  | readmit (tag : Byte) (address : Nat)
  | readStation (tag : Byte) (address : Nat)
  | readInputsList (tag : Byte) (addresses : List Nat)
  | readInputsRun (tag : Byte) (start : Nat)
  | writeOutputs (tag : Byte) (items : List OutputItem)
  | readOutputsList (tag : Byte) (addresses : List Nat)
  | readOutputsRun (tag : Byte) (start : Nat)
  | setLease (tag : Byte) (period : Nat)
  | renewLease (tag : Byte)
  | submit (tag : Byte) (arg : SubmitArg)
  | queryRequest (tag : Byte) (id : Nat)
  | listRequests (tag : Byte)
  | fetchResult (tag : Byte) (id : Nat)
  | discardResult (tag : Byte) (id : Nat)
  | cancel (tag : Byte) (id : Nat)
  | readFaults (tag : Byte)
  | ackFault (tag : Byte) (address code : Nat)
  | ackOldest (tag : Byte)
  | clearFaults (tag : Byte)
  | readCapture (tag : Byte)
  | clearCapture (tag : Byte)
  | setNoticeClass (tag : Byte) (kind cls : Option Nat)
  | grantNotices (tag : Byte) (n : Nat)
  | withholdNotices (tag : Byte)
  | fetchNotice (tag : Byte)
  | hostFrameReceived (bytes : List Byte)
  | hostGapExpiry
  | transmitComplete
  | powerOnReset (baudsel : Bool)
  | pinReset (baudsel : Bool)
  | quietIntervalExpiry
  | transmissionComplete
  | echoCollision
  | replyWindowExpiry
  | replyFrameEnd (rest : List FieldChar)
  | fieldGapExpiry
  | guardExpiry
  | unawaitedFrameEnd (rest : List FieldChar)
  | safeComplete
  | pacedWaitEnd
  | leaseExpiry
  | deadlineExpiry (id : Nat)
  | fieldCharacterReceived (char : FieldChar)
  | hostByteReceived (byte : Byte) (error : Bool)
  deriving DecidableEq, Repr

end Sys2Proof
end

