-- ==== Sys2Proof/Decode.lean ====
section
/-! DEFINITION. From bytes to commands. The opcode table gives no row any bits, so `decodeTableWord` reads
no command. The host's request frames spell requests in the layouts of spec/12: `requestPayload` lays
a request's fields out, and `parseRequest` reads a frame's KIND and payload back (R177, R193). -/

namespace Sys2Proof

/-- The command a word spells by the table's bits: no row of the table has bits. -/
def decodeTableWord (_nbits _w : Nat) : Option Instr := none

/-- A one-byte field. -/
def bytes1 (n : Nat) : List Byte := [BitVec.ofNat 8 n]

/-- A two-byte field, least significant byte first (spec/00, Byte order). -/
def bytes2 (n : Nat) : List Byte := [BitVec.ofNat 8 n, BitVec.ofNat 8 (n / 256)]

/-- A four-byte field, least significant byte first. -/
def bytes4 (n : Nat) : List Byte :=
  [BitVec.ofNat 8 n, BitVec.ofNat 8 (n / 256), BitVec.ofNat 8 (n / 65536),
   BitVec.ofNat 8 (n / 16777216)]

/-- The number a two-byte field holds. -/
def read2 (lo hi : Byte) : Nat := lo.toNat + 256 * hi.toNat

/-- The number a four-byte field holds. -/
def read4 (a b c d : Byte) : Nat :=
  a.toNat + 256 * b.toNat + 65536 * c.toNat + 16777216 * d.toNat

/-- The request KIND codes (spec/12, Request kinds); an event has none. -/
def Instr.requestKind : Instr → Option Byte
  | .identify _ => some 0x01#8
  | .deviceReset _ => some 0x02#8
  | .setBaud _ _ => some 0x03#8
  | .readCounters _ => some 0x04#8
  | .clearCounters _ => some 0x05#8
  | .stagePut _ _ => some 0x10#8
  | .stageRemove _ _ => some 0x11#8
  | .stageClear _ => some 0x12#8
  | .stageHeader _ _ => some 0x13#8
  | .stageRevert _ => some 0x14#8
  | .readRosterSingle _ _ _ => some 0x15#8
  | .readRosterRun _ _ _ => some 0x15#8
  | .commit _ => some 0x16#8
  | .lineStart _ => some 0x20#8
  | .lineStop _ => some 0x21#8
  | .startSweep _ _ _ => some 0x22#8
  | .stopSweep _ => some 0x23#8
  | .readSweepStatus _ => some 0x24#8
  | .startSurvey _ => some 0x25#8
  | .readSurvey _ _ _ => some 0x26#8
  | .disableStation _ _ => some 0x30#8
  | .enableStation _ _ => some 0x31#8
  | .readmit _ _ => some 0x32#8
  | .readStation _ _ => some 0x33#8
  | .readInputsList _ _ => some 0x40#8
  | .readInputsRun _ _ => some 0x40#8
  | .writeOutputs _ _ => some 0x41#8
  | .readOutputsList _ _ => some 0x42#8
  | .readOutputsRun _ _ => some 0x42#8
  | .setLease _ _ => some 0x43#8
  | .renewLease _ => some 0x44#8
  | .submit _ _ => some 0x50#8
  | .queryRequest _ _ => some 0x51#8
  | .listRequests _ => some 0x52#8
  | .fetchResult _ _ => some 0x53#8
  | .discardResult _ _ => some 0x54#8
  | .cancel _ _ => some 0x55#8
  | .readFaults _ => some 0x60#8
  | .ackFault _ _ _ => some 0x61#8
  | .ackOldest _ => some 0x62#8
  | .clearFaults _ => some 0x63#8
  | .readCapture _ => some 0x64#8
  | .clearCapture _ => some 0x65#8
  | .setNoticeClass _ _ _ => some 0x70#8
  | .grantNotices _ _ => some 0x71#8
  | .withholdNotices _ => some 0x72#8
  | .fetchNotice _ => some 0x73#8
  | .hostFrameReceived _ | .hostGapExpiry | .transmitComplete | .powerOnReset _ | .pinReset _
  | .quietIntervalExpiry | .transmissionComplete | .echoCollision | .replyWindowExpiry
  | .replyFrameEnd _ | .fieldGapExpiry | .guardExpiry | .unawaitedFrameEnd _ | .safeComplete
  | .pacedWaitEnd | .leaseExpiry | .deadlineExpiry _ | .fieldCharacterReceived _
  | .hostByteReceived _ _ => none

/-- The tag of a request's frame; an event has none. -/
def Instr.requestTag : Instr → Option Byte
  | .identify t | .deviceReset t | .setBaud t _ | .readCounters t | .clearCounters t
  | .stagePut t _ | .stageRemove t _ | .stageClear t | .stageHeader t _ | .stageRevert t
  | .readRosterSingle t _ _ | .readRosterRun t _ _ | .commit t | .lineStart t | .lineStop t
  | .startSweep t _ _ | .stopSweep t | .readSweepStatus t | .startSurvey t | .readSurvey t _ _
  | .disableStation t _ | .enableStation t _ | .readmit t _ | .readStation t _
  | .readInputsList t _ | .readInputsRun t _ | .writeOutputs t _ | .readOutputsList t _
  | .readOutputsRun t _ | .setLease t _ | .renewLease t | .submit t _ | .queryRequest t _
  | .listRequests t | .fetchResult t _ | .discardResult t _ | .cancel t _ | .readFaults t
  | .ackFault t _ _ | .ackOldest t | .clearFaults t | .readCapture t | .clearCapture t
  | .setNoticeClass t _ _ | .grantNotices t _ | .withholdNotices t | .fetchNotice t => some t
  | .hostFrameReceived _ | .hostGapExpiry | .transmitComplete | .powerOnReset _ | .pinReset _
  | .quietIntervalExpiry | .transmissionComplete | .echoCollision | .replyWindowExpiry
  | .replyFrameEnd _ | .fieldGapExpiry | .guardExpiry | .unawaitedFrameEnd _ | .safeComplete
  | .pacedWaitEnd | .leaseExpiry | .deadlineExpiry _ | .fieldCharacterReceived _
  | .hostByteReceived _ _ => none

/-- The layout of a STAGE_PUT entry (section 12.2): 9 bytes, the pattern and the label. -/
def EntryArg.layout (e : EntryArg) : List Byte :=
  bytes1 e.address ++ bytes2 e.classCode ++ bytes1 e.inWidth ++ bytes1 e.outWidth ++
  bytes1 e.divisor ++ bytes1 e.missLimit ++
  bytes1 (e.mode + 4 * e.startDisabled.toNat + 8 * e.label.isSome.toNat + 16 * e.spare) ++
  bytes1 e.pattern.length ++ e.pattern ++
  (e.label.elim [] fun l => bytes1 l.length ++ l)

/-- The layout of WRITE_OUTPUTS items (section 12.2): address, byte count and the bytes of each. -/
def itemsLayout (items : List OutputItem) : List Byte :=
  items.flatMap fun i => bytes1 i.address ++ bytes1 i.bytes.length ++ i.bytes

/-- The payload of a request's frame (section 12.1, 12.2); an event has none. -/
def Instr.requestPayload : Instr → List Byte
  | .setBaud _ rate => bytes4 rate
  | .stagePut _ e => e.layout
  | .stageRemove _ a => bytes1 a
  | .stageHeader _ h =>
    [h.mask] ++ bytes1 h.speed ++ bytes2 h.window ++ bytes1 h.repeats ++ bytes1 h.budget ++
      bytes1 h.policy
  | .readRosterSingle _ src a => bytes1 src ++ [0x00#8] ++ bytes1 a
  | .readRosterRun _ src a => bytes1 src ++ [0x01#8] ++ bytes1 a
  | .startSweep _ mode value => bytes1 mode ++ bytes2 value
  | .readSurvey _ a c => bytes1 a ++ bytes1 c
  | .disableStation _ a => bytes1 a
  | .enableStation _ a => bytes1 a
  | .readmit _ a => bytes1 a
  | .readStation _ a => bytes1 a
  | .readInputsList _ l => [0x00#8] ++ l.flatMap bytes1
  | .readInputsRun _ a => [0x01#8] ++ bytes1 a
  | .writeOutputs _ items => bytes1 items.length ++ itemsLayout items
  | .readOutputsList _ l => [0x00#8] ++ l.flatMap bytes1
  | .readOutputsRun _ a => [0x01#8] ++ bytes1 a
  | .setLease _ p => bytes2 p
  | .submit _ a =>
    bytes1 a.address ++ bytes1 a.service ++ bytes2 a.deadline ++ bytes1 a.data.length ++ a.data
  | .queryRequest _ id => bytes1 id
  | .fetchResult _ id => bytes1 id
  | .discardResult _ id => bytes1 id
  | .cancel _ id => bytes1 id
  | .ackFault _ a c => bytes1 a ++ bytes1 c
  | .setNoticeClass _ k c => (k.elim [] bytes1) ++ (c.elim [] bytes1)
  | .grantNotices _ n => bytes1 n
  | .identify _ | .deviceReset _ | .readCounters _ | .clearCounters _ | .stageClear _
  | .stageRevert _ | .commit _ | .lineStart _ | .lineStop _ | .stopSweep _ | .readSweepStatus _
  | .startSurvey _ | .renewLease _ | .listRequests _ | .readFaults _ | .ackOldest _
  | .clearFaults _ | .readCapture _ | .clearCapture _ | .withholdNotices _ | .fetchNotice _ => []
  | .hostFrameReceived _ | .hostGapExpiry | .transmitComplete | .powerOnReset _ | .pinReset _
  | .quietIntervalExpiry | .transmissionComplete | .echoCollision | .replyWindowExpiry
  | .replyFrameEnd _ | .fieldGapExpiry | .guardExpiry | .unawaitedFrameEnd _ | .safeComplete
  | .pacedWaitEnd | .leaseExpiry | .deadlineExpiry _ | .fieldCharacterReceived _
  | .hostByteReceived _ _ => []

/-- What the Host Port finds in a good frame with a nonzero tag (R177, R193): a request to pass on, a
KIND it does not know, a payload length the kind does not allow, or a form code that names no form. -/
inductive Parsed where
  | request (i : Instr)
  | unknownKind
  | badLength
  | badArg
  deriving DecidableEq, Repr

/-- The label part of an entry: present when bit 3 of the flags is set, and nothing follows it. -/
def parseLabel (present : Bool) (rest : List Byte) : Option (Option (List Byte)) :=
  match present, rest with
  | false, [] => some none
  | true, len :: label => if label.length = len.toNat then some (some label) else none
  | _, _ => none

/-- Reads a STAGE_PUT entry, or none where the payload length is not the sum its count fields call for. -/
def parseEntry : List Byte → Option EntryArg
  | address :: classLo :: classHi :: inWidth :: outWidth :: divisor :: missLimit :: flags :: n ::
      rest =>
    if n.toNat ≤ rest.length then
      (parseLabel (flags.getLsbD 3) (rest.drop n.toNat)).map fun label =>
        { address := address.toNat, classCode := read2 classLo classHi, inWidth := inWidth.toNat,
          outWidth := outWidth.toNat, divisor := divisor.toNat, missLimit := missLimit.toNat,
          mode := flags.toNat % 4, startDisabled := flags.getLsbD 2, spare := flags.toNat / 16,
          pattern := rest.take n.toNat, label := label }
    else none
  | _ => none

/-- Reads a given number of WRITE_OUTPUTS items, or none where the length is not theirs. -/
def parseItems : Nat → List Byte → Option (List OutputItem)
  | 0, [] => some []
  | 0, _ :: _ => none
  | n + 1, address :: len :: rest =>
    if len.toNat ≤ rest.length then
      (parseItems n (rest.drop len.toNat)).map fun items =>
        { address := address.toNat, bytes := rest.take len.toNat } :: items
    else none
  | _ + 1, _ => none

/-- A payload of no bytes. -/
def parseEmpty (i : Instr) : List Byte → Parsed
  | [] => .request i
  | _ => .badLength

/-- A payload of one byte. -/
def parseOne (f : Nat → Instr) : List Byte → Parsed
  | [a] => .request (f a.toNat)
  | _ => .badLength

/-- A payload of two one-byte fields. -/
def parseTwo (f : Nat → Nat → Instr) : List Byte → Parsed
  | [a, b] => .request (f a.toNat b.toNat)
  | _ => .badLength

/-- READ_INPUTS and READ_OUTPUTS: form 0 with any number of addresses, form 1 with one (R193; a form
code that names no form is BAD_ARG, log 17). -/
def parseForms (list : List Nat → Instr) (run : Nat → Instr) : List Byte → Parsed
  | [] => .badLength
  | form :: rest =>
    if form = 0x00#8 then .request (list (rest.map BitVec.toNat))
    else if form = 0x01#8 then
      match rest with
      | [a] => .request (run a.toNat)
      | _ => .badLength
    else .badArg

/-- A parsed field, or BAD_LENGTH. -/
def Parsed.ofOption {α : Type} (f : α → Instr) : Option α → Parsed
  | some a => .request (f a)
  | none => .badLength

/-- READ_ROSTER: source, form, address (section 12.1). -/
def parseReadRoster (t : Byte) : List Byte → Parsed
  | [src, form, a] =>
    if form = 0x00#8 then .request (.readRosterSingle t src.toNat a.toNat)
    else if form = 0x01#8 then .request (.readRosterRun t src.toNat a.toNat)
    else .badArg
  | _ => .badLength

/-- STAGE_HEADER: presence mask, then the roster header (section 12.2). -/
def parseStageHeader (t : Byte) : List Byte → Parsed
  | [mask, speed, wLo, wHi, repeats, budget, policy] =>
    .request (.stageHeader t
      { mask := mask, speed := speed.toNat, window := read2 wLo wHi, repeats := repeats.toNat,
        budget := budget.toNat, policy := policy.toNat })
  | _ => .badLength

/-- SUBMIT: address, service code, deadline, data length, data (section 12.2). -/
def parseSubmit (t : Byte) : List Byte → Parsed
  | address :: service :: dLo :: dHi :: len :: data =>
    if data.length = len.toNat then
      .request (.submit t
        { address := address.toNat, service := service.toNat, deadline := read2 dLo dHi,
          data := data })
    else .badLength
  | _ => .badLength

/-- WRITE_OUTPUTS: an item count, then the items (section 12.2). -/
def parseWriteOutputs (t : Byte) : List Byte → Parsed
  | n :: rest => Parsed.ofOption (.writeOutputs t) (parseItems n.toNat rest)
  | [] => .badLength

/-- START_SWEEP: mode and a two-byte value (section 12.1). -/
def parseStartSweep (t : Byte) : List Byte → Parsed
  | [mode, lo, hi] => .request (.startSweep t mode.toNat (read2 lo hi))
  | _ => .badLength

/-- SET_BAUD: the rate in bit/s, four bytes. -/
def parseSetBaud (t : Byte) : List Byte → Parsed
  | [a, b, c, d] => .request (.setBaud t (read4 a b c d))
  | _ => .badLength

/-- SET_LEASE: the period in ms, two bytes. -/
def parseSetLease (t : Byte) : List Byte → Parsed
  | [lo, hi] => .request (.setLease t (read2 lo hi))
  | _ => .badLength

/-- SET_NOTICE_CLASS: nothing, or a kind and a class (R161). -/
def parseSetNoticeClass (t : Byte) : List Byte → Parsed
  | [] => .request (.setNoticeClass t none none)
  | [k, c] => .request (.setNoticeClass t (some k.toNat) (some c.toNat))
  | _ => .badLength

/-- Reads a good frame's KIND and payload (spec/12, Request kinds; the checks 2 and 3 of R177). -/
def parseRequest (t kind : Byte) (payload : List Byte) : Parsed :=
  match kind.toNat with
  | 0x01 => parseEmpty (.identify t) payload
  | 0x02 => parseEmpty (.deviceReset t) payload
  | 0x03 => parseSetBaud t payload
  | 0x04 => parseEmpty (.readCounters t) payload
  | 0x05 => parseEmpty (.clearCounters t) payload
  | 0x10 => Parsed.ofOption (.stagePut t) (parseEntry payload)
  | 0x11 => parseOne (.stageRemove t) payload
  | 0x12 => parseEmpty (.stageClear t) payload
  | 0x13 => parseStageHeader t payload
  | 0x14 => parseEmpty (.stageRevert t) payload
  | 0x15 => parseReadRoster t payload
  | 0x16 => parseEmpty (.commit t) payload
  | 0x20 => parseEmpty (.lineStart t) payload
  | 0x21 => parseEmpty (.lineStop t) payload
  | 0x22 => parseStartSweep t payload
  | 0x23 => parseEmpty (.stopSweep t) payload
  | 0x24 => parseEmpty (.readSweepStatus t) payload
  | 0x25 => parseEmpty (.startSurvey t) payload
  | 0x26 => parseTwo (.readSurvey t) payload
  | 0x30 => parseOne (.disableStation t) payload
  | 0x31 => parseOne (.enableStation t) payload
  | 0x32 => parseOne (.readmit t) payload
  | 0x33 => parseOne (.readStation t) payload
  | 0x40 => parseForms (.readInputsList t) (.readInputsRun t) payload
  | 0x41 => parseWriteOutputs t payload
  | 0x42 => parseForms (.readOutputsList t) (.readOutputsRun t) payload
  | 0x43 => parseSetLease t payload
  | 0x44 => parseEmpty (.renewLease t) payload
  | 0x50 => parseSubmit t payload
  | 0x51 => parseOne (.queryRequest t) payload
  | 0x52 => parseEmpty (.listRequests t) payload
  | 0x53 => parseOne (.fetchResult t) payload
  | 0x54 => parseOne (.discardResult t) payload
  | 0x55 => parseOne (.cancel t) payload
  | 0x60 => parseEmpty (.readFaults t) payload
  | 0x61 => parseTwo (.ackFault t) payload
  | 0x62 => parseEmpty (.ackOldest t) payload
  | 0x63 => parseEmpty (.clearFaults t) payload
  | 0x64 => parseEmpty (.readCapture t) payload
  | 0x65 => parseEmpty (.clearCapture t) payload
  | 0x70 => parseSetNoticeClass t payload
  | 0x71 => parseOne (.grantNotices t) payload
  | 0x72 => parseEmpty (.withholdNotices t) payload
  | 0x73 => parseEmpty (.fetchNotice t) payload
  | _ => .unknownKind

end Sys2Proof
end

