-- ==== Sys2Proof/Config.lean ====
section
/-! DEFINITION. What the part fixes: capacities, clock units and identification, and the values the
spec leaves open, which have no body, so that no proof can see them. -/

namespace Sys2Proof.Config

/-- Entries of a roster, and of the survey list (R1, R151). -/
def maxStations : Nat := 40

/-- Bytes of the input image, and of the output image (R4). -/
def imageBytes : Nat := 384

/-- Transaction records (R116). -/
def maxRecords : Nat := 24

/-- AWAITING transaction records (R116). -/
def maxAwaiting : Nat := 4

/-- Fault entries (R137). -/
def maxFaults : Nat := 12

/-- Notice entries (R162). -/
def maxNotices : Nat := 16

/-- The notice credit's limit (R167). -/
def maxCredit : Nat := 255

/-- Places of the request buffer (R176). -/
def maxPlaces : Nat := 4

/-- Entries of the overflow reply list (R176). -/
def maxOverflow : Nat := 4

/-- Bytes of a reply payload, status included (R178). -/
def payloadLimit : Nat := 250

/-- Cycles of the 24 MHz reference clock in one microsecond (R190). -/
def cyclesPerMicrosecond : Nat := 24

/-- Cycles of the reference clock in one millisecond. -/
def cyclesPerMillisecond : Nat := 24000

/-- The part code IDENTIFY reports (R188). -/
def partCode : Nat := 0x2840

/-- The silicon revision the manual describes (R188). -/
def siliconRevision : Nat := 2

/-- FREE VALUE (log 9, DESIGN CHOICE, safe): whether the one-byte flag of an OK reply to STAGE_PUT
is 1 for a replaced entry. R7 says that the reply reports added or replaced and not which is 1. -/
opaque replacedFlagIsOne : Bool

/-- FREE VALUE (log 10, DESIGN CHOICE, safe): whether the snapshot header's one-byte flag is 1 for
CUT. Chapter 12 gives the flag COMPLETE or CUT no code. -/
opaque cutFlagIsOne : Bool

/-- FREE VALUE (log 11, DESIGN CHOICE, safe): whether READ_SWEEP_STATUS rounds the time left in
WAIT up to a whole microsecond. R73 gives the unit and no rounding. -/
opaque waitRoundsUp : Bool

end Sys2Proof.Config
end

