-- ==== Sys2Proof/Machine/State.lean ====
section
/-! DEFINITION. The state of the CL40, block by block as the part overview owns it, its values after
reset, and the reasons a step can stop. An instant is a count of reference clock cycles since reset. -/

namespace Sys2Proof.Machine

/-- No rule of the spec stops the part: no meaning raises a fault, so there is none. -/
inductive Fault where
  deriving DecidableEq, Repr

/-- Why a command has no meaning. Raised by `exec`'s refused arms alone; safe, since nothing can be
proved of a run past it. No arm is refused in this model. -/
inductive Refusal where
  | notModelled (mnemonic : String)
  deriving DecidableEq, Repr

/-! ## Roster Manager (R1 to R6) -/

/-- Line speeds (R2). -/
inductive LineSpeed where
  | kbit500 | mbit1 | mbit2 | mbit4
  deriving DecidableEq, Repr

/-- Rejoin policies (R2, R29). -/
inductive RejoinPolicy where
  | auto | hold | halt
  deriving DecidableEq, Repr

/-- Fallback mode, with the pattern that PATTERN carries (R3, R98). -/
inductive Fallback where
  | zero
  | hold
  | pattern (bytes : List Byte)
  deriving DecidableEq, Repr

/-- The roster header (R2). -/
structure Header where
  speed : LineSpeed
  window : Nat
  repeats : Nat
  budget : Nat
  policy : RejoinPolicy
  deriving DecidableEq, Repr

/-- One roster entry (R3). -/
structure RosterEntry where
  address : Nat
  classCode : Nat
  inWidth : Nat
  outWidth : Nat
  divisor : Nat
  missLimit : Nat
  fallback : Fallback
  startDisabled : Bool
  label : Option (List Byte)
  deriving DecidableEq, Repr

/-- A roster: one header and its entries in ascending address order (R1). -/
structure Roster where
  header : Header
  entries : List RosterEntry
  deriving DecidableEq, Repr

/-- The header an emptied roster holds (R2). -/
def Header.default : Header :=
  { speed := .mbit1, window := 300, repeats := 1, budget := 2, policy := .auto }

/-- A roster emptied by reset or STAGE_CLEAR (R2). -/
def Roster.empty : Roster := { header := .default, entries := [] }

/-- The Roster Manager's state (R6). -/
structure RosterManager where
  staged : Roster
  committed : Roster
  pendingCopy : Option Roster
  generation : Word
  deriving DecidableEq, Repr

/-! ## Station Supervisor (R24, R25) -/

/-- The seven station states (section 2.2). -/
inductive StationState where
  | pending | online | faltering | lost | parked | mismatched | disabled
  deriving DecidableEq, Repr

/-- What an IDREPLY reports (R25). -/
structure Identity where
  classCode : Nat
  inWidth : Nat
  outWidth : Nat
  revision : Nat
  deriving DecidableEq, Repr

/-- The three status flags of a DATA (section 2.6). -/
structure StatusFlags where
  alarm : Bool
  resultReady : Bool
  restarted : Bool
  deriving DecidableEq, Repr

/-- A station record (R25), under its entry's address. -/
structure Station where
  address : Nat
  state : StationState
  miss : Nat
  toggle : Bool
  flags : StatusFlags
  identity : Option Identity
  attempts : Word
  timeouts : Word
  corrupt : Word
  failed : Word
  joins : Word
  probeFailures : Word
  deriving DecidableEq, Repr

/-! ## Sweep Controller (R45) -/

/-- Why the line is HALTED (R45). -/
inductive HaltCause where
  | contention | policy
  deriving DecidableEq, Repr

/-- Line states; HALTED carries its cause (R45). -/
inductive LineState where
  | off | listening | ready | sweeping | surveying
  | halted (cause : HaltCause)
  deriving DecidableEq, Repr

/-- Where a closing leads (R45). -/
inductive ClosingTarget where
  | off | haltedPolicy
  deriving DecidableEq, Repr

/-- A closing in progress: its target, and whether a policy halt began it, whose HALTED(POLICY) is
then entered even after a LINE_STOP has changed the target (R52, R70). -/
structure Closing where
  target : ClosingTarget
  byHalt : Bool
  deriving DecidableEq, Repr

/-- Sweep plans (R45). -/
inductive Plan where
  | counted (n : Nat)
  | free
  | paced (period : Nat)
  deriving DecidableEq, Repr

/-- Sweep phases (R45). -/
inductive Phase where
  | idle | latch | cyclic | acyclic | probe | ending | wait
  deriving DecidableEq, Repr

/-- The pacing schedule: base instant, and the sweeps started since it (R45, R67). -/
structure Pacing where
  base : Nat
  count : Nat
  deriving DecidableEq, Repr

/-- Sweep statistics (R72). -/
structure SweepStats where
  last : Word
  minimum : Word
  maximum : Word
  completed : Word
  abandoned : Word
  overruns : Word
  deriving DecidableEq, Repr

/-- The Sweep Controller's state (R45, R189), with what R61 to R69 and R126 imply it keeps during a
sweep: whether the sweep is marked for cutting, the address last reached in the Cyclic phase, the
acyclic slots left, the stations passed over, the sweep's start and the quiet interval's end. -/
structure SweepController where
  line : LineState
  closing : Option Closing
  plan : Plan
  remaining : Nat
  stop : Bool
  number : Word
  phase : Phase
  probe : Nat
  pacing : Option Pacing
  stats : SweepStats
  cut : Bool
  cursor : Nat
  slots : Nat
  passedOver : List Nat
  startedAt : Nat
  quietDue : Nat
  act : Bool
  deriving DecidableEq, Repr

/-! ## Link Engine (R79) -/

/-- Engine states (R79). -/
inductive EngineState where
  | idle | sending | window | receiving | guard
  deriving DecidableEq, Repr

/-- The master kinds (R76). -/
inductive MasterKind where
  | poll | ident | req | fetch | safe
  deriving DecidableEq, Repr

/-- Who chose an exchange (R80, R85). -/
inductive Chooser where
  | cyclic | acyclic | probe | survey | safe
  deriving DecidableEq, Repr

/-- How an attempt failed, as it is reported (R83). -/
inductive FailureKind where
  | timeout | corrupt
  deriving DecidableEq, Repr

/-- The exchange in flight (R79); `made` counts its judged attempts, `toggle` is R87's. -/
structure Exchange where
  chooser : Chooser
  kind : MasterKind
  address : Nat
  payload : List Byte
  toggle : Bool
  limit : Nat
  made : Nat
  lastFailure : Option FailureKind
  deriving DecidableEq, Repr

/-- The current attempt: the toggle sent, the reply window in microseconds (R79, R81), how many of its
characters have come back as their echo, and the character time they are sent at (R93, R74). -/
structure Attempt where
  toggle : Bool
  window : Nat
  echoed : Nat
  charTime : Nat
  deriving DecidableEq, Repr

/-- The frame being taken: its characters so far and the end of the running gap limit (R77, R78). -/
structure TakenFrame where
  chars : List FieldChar
  gapDue : Nat
  deriving DecidableEq, Repr

/-- The seven line counters (R94). -/
structure LineCounters where
  sent : Word
  good : Word
  timeouts : Word
  corrupt : Word
  stray : Word
  collisions : Word
  foreign : Word
  deriving DecidableEq, Repr

/-- The Link Engine's state (R79, R75). `due` ends the interval that runs: the transmission in
SENDING, the reply window in WINDOW, the guard in GUARD. `lde` is asserted until the last echo has
arrived (log 38, DESIGN CHOICE). -/
structure LinkEngine where
  state : EngineState
  exchange : Option Exchange
  attempt : Option Attempt
  due : Nat
  frame : Option TakenFrame
  counters : LineCounters
  lde : Bool
  deriving DecidableEq, Repr

/-! ## Image Store (R96, R107) -/

/-- Whose value the staged outputs hold (R96). -/
inductive Origin where
  | write | fallback
  deriving DecidableEq, Repr

/-- Published validity (R96). -/
inductive Validity where
  | absent | held | fresh
  deriving DecidableEq, Repr

/-- A station image (R96). -/
structure Image where
  address : Nat
  staged : List Byte
  origin : Origin
  latched : List Byte
  latchedIn : Option Word
  working : List Byte
  delivered : Bool
  validity : Validity
  published : Option (List Byte)
  lastFresh : Option Word
  deriving DecidableEq, Repr

/-- The output lease (R107); `due` is the instant at which an ACTIVE lease runs out. -/
inductive Lease where
  | off
  | active (period due : Nat)
  | expired (period : Nat)
  deriving DecidableEq, Repr

/-- The Image Store's state (R96, R97, R107): images, the snapshot header (its flag set for CUT) and
the lease. -/
structure ImageStore where
  images : List Image
  snapshotSweep : Word
  snapshotCut : Bool
  lease : Lease
  deriving DecidableEq, Repr

/-! ## Request Queue (R114, R115) -/

/-- Result codes (R114). -/
inductive ResultCode where
  | ok | stationError | refused | timedOut | stationDown | stationRemoved | cancelled | lineDown
  deriving DecidableEq, Repr

/-- What a DONE record holds beside its request (R114). -/
structure Ending where
  code : ResultCode
  detail : Option Nat
  data : Option (List Byte)
  sweep : Word
  deriving DecidableEq, Repr

/-- Transaction states (chapter 6). -/
inductive TxnState where
  | queued
  | awaiting
  | done (e : Ending)
  deriving DecidableEq, Repr

/-- A transaction record (R114); `due` is the instant at which its deadline runs out. -/
structure Txn where
  id : Nat
  address : Nat
  service : Nat
  data : List Byte
  deadline : Nat
  due : Nat
  state : TxnState
  attempts : Byte
  deriving DecidableEq, Repr

/-- The Request Queue's state (R115). `marks` lists the stations whose result-waiting mark is set. -/
structure RequestQueue where
  records : List Txn
  nextId : Nat
  marks : List Nat
  orphans : Word
  deriving DecidableEq, Repr

/-! ## Fault List (R136, R137, R149) -/

/-- Fault codes (R138). -/
inductive FaultCode where
  | noAnswer | mismatch | stationAlarm | restarted | contention | leaseExpired | overrun
  deriving DecidableEq, Repr

/-- What became of a raise (R143). -/
inductive Disposition where
  | appended | coalesced | overflowed
  deriving DecidableEq, Repr

/-- A fault entry (R136). -/
structure FaultEntry where
  address : Nat
  code : FaultCode
  firstSweep : Word
  lastSweep : Word
  repeats : Byte
  active : Bool
  deriving DecidableEq, Repr

/-- The first-fault capture record, when filled (R149). -/
structure Capture where
  address : Nat
  code : FaultCode
  sweep : Word
  state : Option StationState
  failure : Option FailureKind
  active : Bool
  disposition : Disposition
  deriving DecidableEq, Repr

/-- The Fault List's state (R137); `flt` is set while the FLT pin is asserted, driven low (R142). -/
structure FaultList where
  entries : List FaultEntry
  overflow : Half
  capture : Option Capture
  flt : Bool
  deriving DecidableEq, Repr

/-! ## Survey Unit (R151) -/

/-- Survey status (R151). -/
inductive SurveyStatus where
  | idle | running | done | cut
  deriving DecidableEq, Repr

/-- A survey list entry (R151). -/
structure SurveyEntry where
  address : Nat
  identity : Identity
  deriving DecidableEq, Repr

/-- The Survey Unit's state (R151). -/
structure SurveyUnit where
  status : SurveyStatus
  found : List SurveyEntry
  overflow : Bool
  done : Nat
  foundTotal : Nat
  noisy : Nat
  current : Option Nat
  startGeneration : Option Word
  deriving DecidableEq, Repr

/-! ## Notice Queue (R160 to R162) -/

/-- Notice kinds (R160). -/
inductive NoticeKind where
  | faultRaised | lineState | stationState | requestDone | commitApplied | surveyDone | sweepDone
  deriving DecidableEq, Repr

/-- A notice: its subject and its payload, by kind (R160). -/
inductive Notice where
  | faultRaised (address : Nat) (code : FaultCode) (disposition : Disposition) (sweep : Word)
      (entry : Option (Byte × Bool)) (overflow : Half)
  | lineState (now before : LineState)
  | stationState (address : Nat) (now : StationState) (before : Option StationState) (miss : Nat)
  | requestDone (id : Nat) (code : ResultCode) (address : Nat) (detail : Option Nat)
  | commitApplied (generation : Word) (kept changed new removed : Nat)
  | surveyDone (status : SurveyStatus) (done found noisy : Nat) (overflow : Bool) (entries : Nat)
  | sweepDone (n : Nat) (last : Word)
  deriving DecidableEq, Repr

/-- A notice entry (R162); its age is its place in the list. -/
structure NoticeEntry where
  notice : Notice
  cls : Nat
  merge : Byte
  deriving DecidableEq, Repr

/-- The class table (R161). -/
structure ClassTable where
  faultRaised : Nat
  lineState : Nat
  stationState : Nat
  requestDone : Nat
  commitApplied : Nat
  surveyDone : Nat
  sweepDone : Nat
  deriving DecidableEq, Repr

/-- The default classes (R160). -/
def ClassTable.default : ClassTable :=
  { faultRaised := 3, lineState := 3, stationState := 2, requestDone := 2, commitApplied := 1,
    surveyDone := 1, sweepDone := 1 }

/-- The Notice Queue's state (R162); `atn` is set while the ATN pin is asserted, driven low (R171). -/
structure NoticeQueue where
  entries : List NoticeEntry
  classes : ClassTable
  credit : Nat
  dropped : Half
  atn : Bool
  deriving DecidableEq, Repr

/-! ## Host Port (spec/10) -/

/-- The six baud rates (R172). -/
inductive Baud where
  | b115200 | b230400 | b460800 | b1000000 | b2000000 | b3000000
  deriving DecidableEq, Repr

/-- Receiver states (R174). -/
inductive RxState where
  | hunt | length | body | check | paused | closed
  deriving DecidableEq, Repr

/-- What the last reset was (R182, R183). -/
inductive ResetCause where
  | power | pin | request
  deriving DecidableEq, Repr

/-- Status codes (R178). -/
inductive Status where
  | ok | pending | badLength | unknownKind | badArg | noStation | notFound | wrongState | full
  | empty | overflow | invalidRoster
  deriving DecidableEq, Repr

/-- What the last byte of a reply sets off (R173, R183). -/
inductive After where
  | nothing
  | setBaud (rate : Baud)
  | reset
  deriving DecidableEq, Repr

/-- A formed reply: status, result fields and what its last byte sets off (R178). -/
structure Reply where
  status : Status
  fields : List Byte
  after : After
  deriving DecidableEq, Repr

/-- An accepted request frame whose reply has not wholly left: in a place of the request buffer, or
in the overflow reply list (R176). -/
structure Held where
  overflow : Bool
  tag : Byte
  kind : Byte
  reply : Reply
  deriving DecidableEq, Repr

/-- A frame on its way to the host: TAG, KIND and payload (section 12.1). -/
structure OutFrame where
  tag : Byte
  kind : Byte
  payload : List Byte
  deriving DecidableEq, Repr

/-- The transmitter: IDLE, or SENDING one frame (R180). -/
inductive Transmitter where
  | idle
  | reply (f : OutFrame)
  | notice (f : OutFrame)
  deriving DecidableEq, Repr

/-- The four host counters (R184). -/
structure HostCounters where
  good : Word
  bad : Word
  overflows : Word
  unknown : Word
  deriving DecidableEq, Repr

/-- The Host Port's state (spec/10). `held` is the request buffer and the overflow reply list
together, in the order of acceptance in which replies leave (R179). -/
structure HostPort where
  baud : Baud
  rx : RxState
  rxFrame : Option (List Byte)
  rxGapDue : Nat
  held : List Held
  tx : Transmitter
  cause : ResetCause
  counters : HostCounters
  deriving DecidableEq, Repr

/-- The whole part: its ten blocks, the reference clock, and the commands that wait, oldest first. -/
structure State where
  roster : RosterManager
  stations : List Station
  sweep : SweepController
  engine : LinkEngine
  image : ImageStore
  requests : RequestQueue
  faults : FaultList
  survey : SurveyUnit
  notices : NoticeQueue
  host : HostPort
  now : Nat
  pending : List Instr
  deriving DecidableEq, Repr

/-! ## Values after reset -/

/-- R6. -/
def RosterManager.reset : RosterManager :=
  { staged := .empty, committed := .empty, pendingCopy := none, generation := 0#32 }

/-- R72. -/
def SweepStats.reset : SweepStats :=
  { last := 0#32, minimum := 0xFFFFFFFF#32, maximum := 0#32, completed := 0#32, abandoned := 0#32,
    overruns := 0#32 }

/-- R45, R189; the implied fields at zero (log 25, DESIGN CHOICE). -/
def SweepController.reset : SweepController :=
  { line := .off, closing := none, plan := .counted 1, remaining := 0, stop := false,
    number := 0#32, phase := .idle, probe := 0, pacing := none, stats := .reset, cut := false,
    cursor := 0, slots := 0, passedOver := [], startedAt := 0, quietDue := 0, act := false }

/-- R94. -/
def LineCounters.reset : LineCounters :=
  { sent := 0#32, good := 0#32, timeouts := 0#32, corrupt := 0#32, stray := 0#32,
    collisions := 0#32, foreign := 0#32 }

/-- R79, R75. -/
def LinkEngine.reset : LinkEngine :=
  { state := .idle, exchange := none, attempt := none, due := 0, frame := none,
    counters := .reset, lde := false }

/-- R97. -/
def ImageStore.reset : ImageStore :=
  { images := [], snapshotSweep := 0#32, snapshotCut := false, lease := .off }

/-- R115. -/
def RequestQueue.reset : RequestQueue :=
  { records := [], nextId := 1, marks := [], orphans := 0#32 }

/-- R137. -/
def FaultList.reset : FaultList :=
  { entries := [], overflow := 0#16, capture := none, flt := false }

/-- R151. -/
def SurveyUnit.reset : SurveyUnit :=
  { status := .idle, found := [], overflow := false, done := 0, foundTotal := 0, noisy := 0,
    current := none, startGeneration := none }

/-- R162. -/
def NoticeQueue.reset : NoticeQueue :=
  { entries := [], classes := .default, credit := 0, dropped := 0#16, atn := false }

/-- R184. -/
def HostCounters.reset : HostCounters :=
  { good := 0#32, bad := 0#32, overflows := 0#32, unknown := 0#32 }

/-- The Host Port after power-on with BAUDSEL low (spec/10, R172; the level is log 8, DESIGN CHOICE). -/
def HostPort.reset : HostPort :=
  { baud := .b115200, rx := .hunt, rxFrame := none, rxGapDue := 0, held := [], tx := .idle,
    cause := .power, counters := .reset }

/-- The part right after power-on reset, with no command waiting. -/
def State.reset : State :=
  { roster := .reset, stations := [], sweep := .reset, engine := .reset, image := .reset,
    requests := .reset, faults := .reset, survey := .reset, notices := .reset, host := .reset,
    now := 0, pending := [] }

end Sys2Proof.Machine
end

