-- ==== Sys2Proof/Machine/Flags.lean ====
section
/-! DEFINITION. Saturating counts, the status flags of a DATA, and the levels of the pins. -/

namespace Sys2Proof.Machine

/-- A counter's rise by 1, stopping at its maximum (spec/00, Counters). -/
def satInc {w : Nat} (c : BitVec w) : BitVec w :=
  if c = BitVec.allOnes w then c else c + 1#w

/-- The status flags byte of a DATA: ALARM bit 0, RESULT_READY bit 1, RESTARTED bit 2; bits 3..7 are
ignored (section 12.3, R194). -/
def StatusFlags.ofByte (b : Byte) : StatusFlags :=
  { alarm := b.getLsbD 0, resultReady := b.getLsbD 1, restarted := b.getLsbD 2 }

/-- Last status flags as the DATA flags byte (section 12.2, READ_STATION). -/
def StatusFlags.toNat (f : StatusFlags) : Nat :=
  f.alarm.toNat + 2 * f.resultReady.toNat + 4 * f.restarted.toNat

/-- All flags clear (R20). -/
def StatusFlags.clear : StatusFlags := { alarm := false, resultReady := false, restarted := false }

/-- Whether any fault entry is active, which is what FLT shows (R142). -/
def anyActive (l : List FaultEntry) : Bool := l.any (·.active)

/-- The levels of the output pins that are levels (R190); high is true. -/
structure PinLevels where
  atn : Bool
  flt : Bool
  act : Bool
  lde : Bool
  deriving DecidableEq, Repr

/-- ATN and FLT are low while asserted (R142, R171); ACT and LDE show their own level (R189, R75). -/
def State.pinLevels (s : State) : PinLevels :=
  { atn := !s.notices.atn, flt := !s.faults.flt, act := s.sweep.act, lde := s.engine.lde }

end Sys2Proof.Machine
end

