-- ==== Sys2Proof/Machine/Operands.lean ====
section
/-! DEFINITION. The values that cross the part's boundaries: enumeration codes, the layouts of reply and
notice fields (R192, spec/12), the two CRCs (R191, R194), frames, and the ranges of arguments. -/

namespace Sys2Proof

/-- A received character is well formed: its stop bit is high, and the ones among its eight data bits and
its parity bit are even in number (R74). -/
def FieldChar.ok (c : FieldChar) : Bool :=
  c.stop && !((List.range 8).foldl (fun p k => p ^^ c.value.getLsbD k) c.parity)

/-- The well-formed character of a value: even parity and a high stop bit (R74). -/
def FieldChar.of (b : Byte) : FieldChar :=
  { value := b, parity := (List.range 8).foldl (fun p k => p ^^ b.getLsbD k) false, stop := true }

end Sys2Proof

namespace Sys2Proof.Machine

/-! ## Ranges -/

/-- A station address, 1..119; 120..127 and the values above them name no station (spec/00, Station
addresses; log 19). -/
def validAddress (a : Nat) : Bool := decide (1 ≤ a) && decide (a ≤ 119)

/-- The addresses repeat none. -/
def distinct : List Nat → Bool
  | [] => true
  | a :: l => !l.contains a && distinct l

/-- Adds an address to an ascending list that repeats none. -/
def insertAddress (a : Nat) : List Nat → List Nat
  | [] => [a]
  | b :: l => if a < b then a :: b :: l else if a = b then b :: l else b :: insertAddress a l

/-! ## Enumeration codes (section 12.1) -/

/-- Status codes. -/
def Status.code : Status → Nat
  | .ok => 0x00 | .pending => 0x01 | .badLength => 0x10 | .unknownKind => 0x11
  | .badArg => 0x12 | .noStation => 0x13 | .notFound => 0x14 | .wrongState => 0x15
  | .full => 0x16 | .empty => 0x17 | .overflow => 0x18 | .invalidRoster => 0x19

/-- Station state codes. -/
def StationState.code : StationState → Nat
  | .pending => 0 | .online => 1 | .faltering => 2 | .lost => 3 | .parked => 4
  | .mismatched => 5 | .disabled => 6

/-- Line state codes. -/
def LineState.code : LineState → Nat
  | .off => 0 | .listening => 1 | .ready => 2 | .sweeping => 3 | .surveying => 4 | .halted _ => 5

/-- Halt cause codes; 0 where the line is not HALTED. -/
def LineState.causeCode : LineState → Nat
  | .halted .contention => 1
  | .halted .policy => 2
  | .off | .listening | .ready | .sweeping | .surveying => 0

/-- Closing target codes; 0 for no closing. -/
def closingCode : Option Closing → Nat
  | none => 0
  | some c => match c.target with
    | .off => 1
    | .haltedPolicy => 2

/-- Sweep phase codes. -/
def Phase.code : Phase → Nat
  | .idle => 0 | .latch => 1 | .cyclic => 2 | .acyclic => 3 | .probe => 4 | .ending => 5 | .wait => 6

/-- Line speed codes. -/
def LineSpeed.code : LineSpeed → Nat
  | .kbit500 => 0 | .mbit1 => 1 | .mbit2 => 2 | .mbit4 => 3

/-- The line speed a code names. -/
def LineSpeed.ofCode : Nat → Option LineSpeed
  | 0 => some .kbit500 | 1 => some .mbit1 | 2 => some .mbit2 | 3 => some .mbit4 | _ => none

/-- Rejoin policy codes. -/
def RejoinPolicy.code : RejoinPolicy → Nat
  | .auto => 0 | .hold => 1 | .halt => 2

/-- The rejoin policy a code names. -/
def RejoinPolicy.ofCode : Nat → Option RejoinPolicy
  | 0 => some .auto | 1 => some .hold | 2 => some .halt | _ => none

/-- Fallback mode codes. -/
def Fallback.code : Fallback → Nat
  | .zero => 0 | .hold => 1 | .pattern _ => 2

/-- The pattern a fallback carries, of no bytes unless it is PATTERN. -/
def Fallback.bytes : Fallback → List Byte
  | .zero => [] | .hold => [] | .pattern p => p

/-- Fault codes. -/
def FaultCode.code : FaultCode → Nat
  | .noAnswer => 1 | .mismatch => 2 | .stationAlarm => 3 | .restarted => 4 | .contention => 5
  | .leaseExpired => 6 | .overrun => 7

/-- The fault code a number names. -/
def FaultCode.ofCode : Nat → Option FaultCode
  | 1 => some .noAnswer | 2 => some .mismatch | 3 => some .stationAlarm | 4 => some .restarted
  | 5 => some .contention | 6 => some .leaseExpired | 7 => some .overrun | _ => none

/-- Disposition codes. -/
def Disposition.code : Disposition → Nat
  | .appended => 0 | .coalesced => 1 | .overflowed => 2

/-- Failure kind codes; 0 for absent. -/
def failureCode : Option FailureKind → Nat
  | none => 0 | some .timeout => 1 | some .corrupt => 2

/-- Notice kind codes. -/
def NoticeKind.code : NoticeKind → Nat
  | .faultRaised => 1 | .lineState => 2 | .stationState => 3 | .requestDone => 4
  | .commitApplied => 5 | .surveyDone => 6 | .sweepDone => 7

/-- The notice kind a code names. -/
def NoticeKind.ofCode : Nat → Option NoticeKind
  | 1 => some .faultRaised | 2 => some .lineState | 3 => some .stationState
  | 4 => some .requestDone | 5 => some .commitApplied | 6 => some .surveyDone
  | 7 => some .sweepDone | _ => none

/-- Transaction state codes. -/
def TxnState.code : TxnState → Nat
  | .queued => 0 | .awaiting => 1 | .done _ => 2

/-- Result codes. -/
def ResultCode.code : ResultCode → Nat
  | .ok => 1 | .stationError => 2 | .refused => 3 | .timedOut => 4 | .stationDown => 5
  | .stationRemoved => 6 | .cancelled => 7 | .lineDown => 8

/-- Lease state codes. -/
def Lease.code : Lease → Nat
  | .off => 0 | .active _ _ => 1 | .expired _ => 2

/-- Validity codes. -/
def Validity.code : Validity → Nat
  | .absent => 0 | .held => 1 | .fresh => 2

/-- Survey status codes. -/
def SurveyStatus.code : SurveyStatus → Nat
  | .idle => 0 | .running => 1 | .done => 2 | .cut => 3

/-- Staged origin codes. -/
def Origin.code : Origin → Nat
  | .write => 0 | .fallback => 1

/-- Reset cause codes. -/
def ResetCause.code : ResetCause → Nat
  | .power => 0 | .pin => 1 | .request => 2

/-- Baud rates in bit/s (R172). -/
def Baud.rate : Baud → Nat
  | .b115200 => 115200 | .b230400 => 230400 | .b460800 => 460800 | .b1000000 => 1000000
  | .b2000000 => 2000000 | .b3000000 => 3000000

/-- The baud rate a number names (R173). -/
def Baud.ofRate (n : Nat) : Option Baud :=
  [Baud.b115200, .b230400, .b460800, .b1000000, .b2000000, .b3000000].find? (·.rate == n)

/-- The rate BAUDSEL gives: low 115200, high 1 000 000 (R172). -/
def Baud.ofBaudsel (high : Bool) : Baud := if high then .b1000000 else .b115200

/-- Master kind codes (section 12.3). -/
def MasterKind.code : MasterKind → Nat
  | .poll => 1 | .ident => 2 | .req => 3 | .fetch => 4 | .safe => 5

/-! ## Field encodings (R192) -/

/-- A flag: 0 no, 1 yes. -/
def flagByte (b : Bool) : List Byte := bytes1 b.toNat

/-- A one-byte enumeration, address or flag that may be absent: 0xFF for absent. -/
def optByte : Option Nat → List Byte
  | some n => bytes1 n
  | none => [0xFF#8]

/-- A one-byte number whose range reaches 0xFF and that may be absent. -/
def optNumber : Option Nat → List Byte
  | some n => [0x01#8] ++ bytes1 n
  | none => [0x00#8, 0x00#8]

/-- A two-byte field that may be absent. -/
def opt2 : Option Nat → List Byte
  | some n => [0x01#8] ++ bytes2 n
  | none => [0x00#8]

/-- A four-byte field that may be absent. -/
def opt4 : Option Nat → List Byte
  | some n => [0x01#8] ++ bytes4 n
  | none => [0x00#8]

/-- A byte run of varying length. -/
def runBytes (l : List Byte) : List Byte := bytes1 l.length ++ l

/-- A byte run that may be absent. -/
def optRun : Option (List Byte) → List Byte
  | some l => [0x01#8] ++ runBytes l
  | none => [0x00#8]

/-- A 32-bit counter, sweep number or generation. -/
def wordBytes (w : Word) : List Byte := bytes4 w.toNat

/-- A 16-bit count. -/
def halfBytes (h : Half) : List Byte := bytes2 h.toNat

/-- A list of encoded elements, preceded by its count. -/
def listBytes (l : List (List Byte)) : List Byte := bytes1 l.length ++ l.flatten

/-- As many whole elements as the room holds (R13, R192). -/
def fitPrefix : Nat → List (List Byte) → List (List Byte)
  | _, [] => []
  | room, x :: l => if x.length ≤ room then x :: fitPrefix (room - x.length) l else []

/-- The run form of a reply's list: the elements that fit, with their count, and the address of the
first one left out, 0 when none is (R13, R192). -/
def runForm (room : Nat) (l : List (Nat × List Byte)) : List Byte × Nat :=
  let taken := fitPrefix room (l.map (·.2))
  (listBytes taken, ((l.drop taken.length).head?.map (·.1)).getD 0)

/-- A roster header, 6 bytes (section 12.2). -/
def Header.bytes (h : Header) : List Byte :=
  bytes1 h.speed.code ++ bytes2 h.window ++ bytes1 h.repeats ++ bytes1 h.budget ++
  bytes1 h.policy.code

/-- A roster entry as READ_ROSTER returns it (section 12.2). -/
def RosterEntry.bytes (e : RosterEntry) : List Byte :=
  bytes1 e.address ++ bytes2 e.classCode ++ bytes1 e.inWidth ++ bytes1 e.outWidth ++
  bytes1 e.divisor ++ bytes1 e.missLimit ++
  bytes1 (e.fallback.code + 4 * e.startDisabled.toNat + 8 * e.label.isSome.toNat) ++
  runBytes e.fallback.bytes ++ (e.label.elim [] runBytes)

/-- A plan: its mode, and the count n or the period, absent under FREE (R73, R192, log 12). -/
def Plan.bytes : Plan → List Byte
  | .counted n => bytes1 0 ++ opt2 (some n)
  | .free => bytes1 1 ++ opt2 none
  | .paced p => bytes1 2 ++ opt2 (some p)

/-- The six sweep statistics (R72, R73). -/
def SweepStats.bytes (t : SweepStats) : List Byte :=
  wordBytes t.last ++ wordBytes t.minimum ++ wordBytes t.maximum ++ wordBytes t.completed ++
  wordBytes t.abandoned ++ wordBytes t.overruns

/-- The seven line counters (R94, R185). -/
def LineCounters.bytes (c : LineCounters) : List Byte :=
  wordBytes c.sent ++ wordBytes c.good ++ wordBytes c.timeouts ++ wordBytes c.corrupt ++
  wordBytes c.stray ++ wordBytes c.collisions ++ wordBytes c.foreign

/-- The four host counters (R184, R185). -/
def HostCounters.bytes (c : HostCounters) : List Byte :=
  wordBytes c.good ++ wordBytes c.bad ++ wordBytes c.overflows ++ wordBytes c.unknown

/-- A fault entry, 12 bytes (section 12.2). -/
def FaultEntry.bytes (e : FaultEntry) : List Byte :=
  bytes1 e.address ++ bytes1 e.code.code ++ wordBytes e.firstSweep ++ wordBytes e.lastSweep ++
  [e.repeats] ++ flagByte e.active

/-- A capture record, 10 bytes (section 12.2). -/
def Capture.bytes (c : Capture) : List Byte :=
  bytes1 c.address ++ bytes1 c.code.code ++ wordBytes c.sweep ++
  optByte (c.state.map StationState.code) ++ bytes1 (failureCode c.failure) ++
  flagByte c.active ++ bytes1 c.disposition.code

/-- A survey list entry (R151). Each width and the station revision take one byte, as in an IDREPLY, since
chapter 12 lays out no survey entry (log 35, DEDUCED). -/
def SurveyEntry.bytes (e : SurveyEntry) : List Byte :=
  bytes1 e.address ++ bytes2 e.identity.classCode ++ bytes1 e.identity.inWidth ++
  bytes1 e.identity.outWidth ++ bytes1 e.identity.revision

/-- The class table, one class a kind in the order of their codes (R161, log 16). -/
def ClassTable.bytes (t : ClassTable) : List Byte :=
  bytes1 t.faultRaised ++ bytes1 t.lineState ++ bytes1 t.stationState ++ bytes1 t.requestDone ++
  bytes1 t.commitApplied ++ bytes1 t.surveyDone ++ bytes1 t.sweepDone

/-- The kind of a notice (R160). -/
def Notice.kind : Notice → NoticeKind
  | .faultRaised _ _ _ _ _ _ => .faultRaised
  | .lineState _ _ => .lineState
  | .stationState _ _ _ _ => .stationState
  | .requestDone _ _ _ _ => .requestDone
  | .commitApplied _ _ _ _ _ => .commitApplied
  | .surveyDone _ _ _ _ _ _ => .surveyDone
  | .sweepDone _ _ => .sweepDone

/-- The subject of a notice as its two bytes name it (section 12.1): address and fault code, address
and 0, id and 0, or 0 and 0 for a kind without a subject. -/
def Notice.subject : Notice → Nat × Nat
  | .faultRaised a c _ _ _ _ => (a, c.code)
  | .lineState _ _ => (0, 0)
  | .stationState a _ _ _ => (a, 0)
  | .requestDone id _ _ _ => (id, 0)
  | .commitApplied _ _ _ _ _ => (0, 0)
  | .surveyDone _ _ _ _ _ _ => (0, 0)
  | .sweepDone _ _ => (0, 0)

/-- Kind and subject: the matter a notice reports (R160). -/
def Notice.matter (n : Notice) : NoticeKind × Nat × Nat := (n.kind, n.subject)

/-- The kind payload of a notice (R160 by R192; section 12.1). -/
def Notice.payload : Notice → List Byte
  | .faultRaised _ _ d sweep entry overflow =>
    bytes1 d.code ++ wordBytes sweep ++
    (match entry with
      | some (repeats, active) => [repeats] ++ flagByte active
      | none => [0x00#8, 0xFF#8]) ++ halfBytes overflow
  | .lineState now before => bytes1 now.code ++ bytes1 before.code ++ bytes1 now.causeCode
  | .stationState _ now before miss =>
    bytes1 now.code ++ optByte (before.map StationState.code) ++ bytes1 miss
  | .requestDone _ code address detail => bytes1 code.code ++ bytes1 address ++ optNumber detail
  | .commitApplied g kept changed new removed =>
    wordBytes g ++ bytes1 kept ++ bytes1 changed ++ bytes1 new ++ bytes1 removed
  | .surveyDone status done found noisy overflow entries =>
    bytes1 status.code ++ bytes1 done ++ bytes1 found ++ bytes1 noisy ++ flagByte overflow ++
    bytes1 entries
  | .sweepDone n last => bytes2 n ++ wordBytes last

/-- A notice frame's payload, and the result fields of FETCH_NOTICE (section 12.1). -/
def NoticeEntry.bytes (e : NoticeEntry) (dropped : Half) : List Byte :=
  bytes1 e.cls ++ bytes1 e.notice.kind.code ++ bytes1 e.notice.subject.1 ++
  bytes1 e.notice.subject.2 ++ [e.merge] ++ halfBytes dropped ++ e.notice.payload

/-! ## CRC -/

/-- One shift of a CRC register (R191). -/
def crcBit (poly r : Half) : Half := if r.msb then (r <<< 1) ^^^ poly else r <<< 1

/-- One covered byte: combined with the register's upper eight bits, then eight shifts (R191). -/
def crcByte (poly r : Half) (b : Byte) : Half :=
  let step := crcBit poly
  step (step (step (step (step (step (step (step (r ^^^ (b.setWidth 16 <<< 8)))))))))

/-- The host frames' CRC over LEN through payload (R191). -/
def hostCrc (l : List Byte) : Half := l.foldl (crcByte 0x1021#16) 0xFFFF#16

/-- The field-line CRC over address through payload (R194). -/
def fieldCrc (l : List Byte) : Half := l.foldl (crcByte 0x8005#16) 0x0000#16

/-- A CRC's two bytes, least significant first. -/
def crcBytes (c : Half) : List Byte := [c.setWidth 8, (c >>> 8).setWidth 8]

/-! ## Frames -/

/-- A whole host frame (section 12.1): SYNC, LEN, TAG, KIND, payload, CRC. -/
def OutFrame.bytes (f : OutFrame) : List Byte :=
  let body := bytes2 (f.payload.length + 2) ++ [f.tag, f.kind] ++ f.payload
  [0xC5#8] ++ body ++ crcBytes (hostCrc body)

/-- A whole master frame (R76, section 12.3): delimiter, address, control, length, payload, CRC. -/
def Exchange.bytes (x : Exchange) : List Byte :=
  let body := bytes1 x.address ++ bytes1 (16 * x.kind.code + 8 * x.toggle.toNat) ++
    runBytes x.payload
  [0x96#8] ++ body ++ crcBytes (fieldCrc body)

/-- A received frame's characters from the address on, once its delimiter is known (R76). -/
structure FieldFrame where
  address : Byte
  control : Byte
  payload : List Byte
  deriving DecidableEq, Repr

/-- The frame kind in a control field: bits 4..7. -/
def FieldFrame.kindCode (f : FieldFrame) : Nat := f.control.toNat / 16

/-- The toggle bit in a control field: bit 3. -/
def FieldFrame.toggle (f : FieldFrame) : Bool := f.control.getLsbD 3

/-- The three bits of a control field that are zero in every frame: bits 0..2. -/
def FieldFrame.zeroBits (f : FieldFrame) : Bool := f.control.toNat % 8 == 0

/-- The number of characters the length field calls for, once it has been received well formed with
72 or less; none until then, and none for good where it is above 72 or ill formed (R77). -/
def wantedChars (chars : List FieldChar) : Option Nat :=
  match chars[3]? with
  | some c => if c.ok && decide (c.value.toNat ≤ 72) then some (c.value.toNat + 6) else none
  | none => none

/-- The frame has ended at a character: the last one its length field calls for, or the 78th (R77). -/
def endsFrame (chars : List FieldChar) : Bool :=
  wantedChars chars == some chars.length || decide (78 ≤ chars.length)

/-- An intact frame's fields: it ended where its length field calls for, every character is well
formed and its CRC matches (R77); none otherwise. -/
def intactFrame (chars : List FieldChar) : Option FieldFrame :=
  match chars.map (·.value) with
  | _ :: address :: control :: length :: rest =>
    if wantedChars chars == some chars.length && chars.all (·.ok) then
      let payload := rest.take length.toNat
      if rest.drop length.toNat == crcBytes (fieldCrc (address :: control :: length :: payload))
      then some { address := address, control := control, payload := payload }
      else none
    else none
  | _ => none

/-- A frame of a master kind: intact, an assigned master kind, its three zero bits zero (R77). -/
def isMasterFrame (chars : List FieldChar) : Bool :=
  match intactFrame chars with
  | some f => f.zeroBits && decide (1 ≤ f.kindCode) && decide (f.kindCode ≤ 5)
  | none => false

/-- The three outcomes of a REQACK (section 12.3). -/
inductive ReqOutcome where
  | accepted | complete | refused
  deriving DecidableEq, Repr

/-- A good reply's contents (R76, section 12.3). -/
inductive GoodReply where
  | data (flags : StatusFlags) (inputs : List Byte)
  | idreply (identity : Identity)
  | reqack (outcome : ReqOutcome) (detail : Nat) (data : List Byte)
  | result (id detail : Nat) (data : List Byte)
  | notready
  deriving DecidableEq, Repr

/-- The outcome a REQACK's code names; data is allowed under COMPLETE alone (R82, R194). -/
def ReqOutcome.ofCode (code : Nat) (data : List Byte) : Option ReqOutcome :=
  match code with
  | 0 => if data.isEmpty then some .accepted else none
  | 1 => some .complete
  | 2 => if data.isEmpty then some .refused else none
  | _ => none

/-- Judges a DATA to a POLL: length 1 + input width, and the toggle echoed (R82). -/
def judgeData (x : Exchange) (inWidth : Option Nat) (f : FieldFrame) : Option GoodReply :=
  match f.payload with
  | flags :: inputs =>
    if inWidth == some inputs.length && f.toggle == x.toggle then
      some (.data (.ofByte flags) inputs)
    else none
  | [] => none

/-- Judges an IDREPLY: five characters, widths at most 16 (R82, R194). -/
def judgeIdreply (f : FieldFrame) : Option GoodReply :=
  match f.payload with
  | [lo, hi, inW, outW, rev] =>
    if decide (inW.toNat ≤ 16) && decide (outW.toNat ≤ 16) then
      some (.idreply { classCode := read2 lo hi, inWidth := inW.toNat, outWidth := outW.toNat,
                       revision := rev.toNat })
    else none
  | _ => none

/-- Judges a REQACK: 3..67 characters, the REQ's id, a named outcome (R82, R194). -/
def judgeReqack (x : Exchange) (f : FieldFrame) : Option GoodReply :=
  match f.payload with
  | id :: outcome :: detail :: data =>
    if x.payload.head? == some id && decide (data.length ≤ 64) then
      (ReqOutcome.ofCode outcome.toNat data).map fun o => .reqack o detail.toNat data
    else none
  | _ => none

/-- Judges a RESULT, 2..66 characters, or a NOTREADY, one character (R82, section 12.3). -/
def judgeFetch (f : FieldFrame) : Option GoodReply :=
  if f.kindCode == 11 then
    match f.payload with
    | id :: detail :: data =>
      if data.length ≤ 64 then some (.result id.toNat detail.toNat data) else none
    | _ => none
  else if f.kindCode == 12 && f.payload.length == 1 then some .notready
  else none

/-- Judges the awaited reply to an exchange's master frame (R82); none is a failed reply. The input
width is that of the committed entry the exchange is addressed to. -/
def judgeReply (x : Exchange) (inWidth : Option Nat) (chars : List FieldChar) :
    Option GoodReply :=
  match intactFrame chars with
  | none => none
  | some f =>
    if f.zeroBits && f.address.toNat == x.address then
      match x.kind with
      | .poll => if f.kindCode == 8 then judgeData x inWidth f else none
      | .ident => if f.kindCode == 9 then judgeIdreply f else none
      | .req => if f.kindCode == 10 then judgeReqack x f else none
      | .fetch => judgeFetch f
      | .safe => none
    else none

/-! ## Time -/

/-- Reference clock cycles of one field-line character: 11 bit times (R74). -/
def LineSpeed.charCycles : LineSpeed → Nat
  | .kbit500 => 528 | .mbit1 => 264 | .mbit2 => 132 | .mbit4 => 66

/-- Reference clock cycles of one host byte, 10 bit times, rounded up (R172). -/
def Baud.byteCycles (b : Baud) : Nat := (240000000 + b.rate - 1) / b.rate

/-- Whole milliseconds left until an instant, the one that has begun counted whole (R107, R114, log 11). -/
def msLeft (now due : Nat) : Nat :=
  (due - now + (Config.cyclesPerMillisecond - 1)) / Config.cyclesPerMillisecond

/-- Microseconds left until an instant (R73); how they are rounded is free (log 11). -/
def usLeft (now due : Nat) : Nat :=
  if Config.waitRoundsUp then
    (due - now + (Config.cyclesPerMicrosecond - 1)) / Config.cyclesPerMicrosecond
  else (due - now) / Config.cyclesPerMicrosecond

end Sys2Proof.Machine
end

