-- ==== Sys2Proof/Machine/Ops.lean ====
section
/-! DEFINITION. The operations the blocks share: the update of one block, look-ups by address, raising a
notice, raising a fault and marking it inactive, ending transactions, and the Host Port's acceptance
of a request and its transmitter's choice. -/

namespace Sys2Proof.Machine

/-- What a step answers. -/
abbrev Result := Host.Outcome State Fault Refusal

/-! ## One block at a time -/

/-- Updates the Roster Manager alone. -/
def State.onRoster (f : RosterManager → RosterManager) (s : State) : State :=
  { s with roster := f s.roster }

/-- Updates the station records alone. -/
def State.onStations (f : List Station → List Station) (s : State) : State :=
  { s with stations := f s.stations }

/-- Updates the Sweep Controller alone. -/
def State.onSweep (f : SweepController → SweepController) (s : State) : State :=
  { s with sweep := f s.sweep }

/-- Updates the Link Engine alone. -/
def State.onEngine (f : LinkEngine → LinkEngine) (s : State) : State :=
  { s with engine := f s.engine }

/-- Updates the Image Store alone. -/
def State.onImage (f : ImageStore → ImageStore) (s : State) : State :=
  { s with image := f s.image }

/-- Updates the Request Queue alone. -/
def State.onRequests (f : RequestQueue → RequestQueue) (s : State) : State :=
  { s with requests := f s.requests }

/-- Updates the Fault List alone. -/
def State.onFaults (f : FaultList → FaultList) (s : State) : State :=
  { s with faults := f s.faults }

/-- Updates the Survey Unit alone. -/
def State.onSurvey (f : SurveyUnit → SurveyUnit) (s : State) : State :=
  { s with survey := f s.survey }

/-- Updates the Notice Queue alone. -/
def State.onNotices (f : NoticeQueue → NoticeQueue) (s : State) : State :=
  { s with notices := f s.notices }

/-- Updates the Host Port alone. -/
def State.onHost (f : HostPort → HostPort) (s : State) : State :=
  { s with host := f s.host }

/-- Carries the reference clock to an instant that has come, never back (log 2). -/
def State.at (due : Nat) (s : State) : State := { s with now := max s.now due }

/-! ## Look-ups by address -/

/-- A roster's entry with the address. -/
def Roster.entry? (r : Roster) (a : Nat) : Option RosterEntry := r.entries.find? (·.address == a)

/-- The committed entry with the address. -/
def State.entry? (s : State) (a : Nat) : Option RosterEntry := s.roster.committed.entry? a

/-- The station record with the address (R25). -/
def State.station? (s : State) (a : Nat) : Option Station := s.stations.find? (·.address == a)

/-- The station image with the address (R96). -/
def State.image? (s : State) (a : Nat) : Option Image := s.image.images.find? (·.address == a)

/-- Changes the station record with the address. -/
def State.onStation (a : Nat) (f : Station → Station) (s : State) : State :=
  s.onStations fun l => l.map fun r => if r.address = a then f r else r

/-- Changes the station image with the address. -/
def State.onImageOf (a : Nat) (f : Image → Image) (s : State) : State :=
  s.onImage fun m =>
    { m with images := m.images.map fun i => if i.address = a then f i else i }

/-- ONLINE or FALTERING, the states that are polled (R26). -/
def StationState.polled : StationState → Bool
  | .online => true
  | .faltering => true
  | .pending | .lost | .parked | .mismatched | .disabled => false

/-- The station's record is ONLINE or FALTERING. -/
def State.polled (s : State) (a : Nat) : Bool :=
  match s.station? a with
  | some r => r.state.polled
  | none => false

/-! ## Raising a notice (R163, R164) -/

/-- The class of a kind (R161). -/
def ClassTable.get (t : ClassTable) : NoticeKind → Nat
  | .faultRaised => t.faultRaised
  | .lineState => t.lineState
  | .stationState => t.stationState
  | .requestDone => t.requestDone
  | .commitApplied => t.commitApplied
  | .surveyDone => t.surveyDone
  | .sweepDone => t.sweepDone

/-- Sets the class of a kind (R161). -/
def ClassTable.set (t : ClassTable) (k : NoticeKind) (c : Nat) : ClassTable :=
  match k with
  | .faultRaised => { t with faultRaised := c }
  | .lineState => { t with lineState := c }
  | .stationState => { t with stationState := c }
  | .requestDone => { t with requestDone := c }
  | .commitApplied => { t with commitApplied := c }
  | .surveyDone => { t with surveyDone := c }
  | .sweepDone => { t with sweepDone := c }

/-- The lowest class among the waiting entries (R164). -/
def lowestClass (l : List NoticeEntry) : Nat := l.foldr (fun e c => min e.cls c) 3

/-- Removes the youngest entry of a class, which is the last one of it (R164). -/
def removeYoungest (c : Nat) (l : List NoticeEntry) : List NoticeEntry :=
  (l.reverse.eraseP (·.cls == c)).reverse

/-- An entry of the notice's matter waits. -/
def NoticeQueue.holds (q : NoticeQueue) (n : Notice) : Bool :=
  q.entries.any (·.notice.matter == n.matter)

/-- Folds a raise into the entry of its matter: the payload is replaced, the merge count rises, class
and age are kept (R163, case 2). -/
def foldNotice (n : Notice) (e : NoticeEntry) : NoticeEntry :=
  if e.notice.matter == n.matter then { e with notice := n, merge := satInc e.merge } else e

/-- The Notice Queue takes a raise: suppressed, coalesced, appended, or settled at a full queue. -/
def NoticeQueue.take (n : Notice) (q : NoticeQueue) : NoticeQueue :=
  let c := q.classes.get n.kind
  if c = 0 then q
  else if q.holds n then { q with entries := q.entries.map (foldNotice n) }
  else if q.entries.length < Config.maxNotices then
    { q with entries := q.entries ++ [{ notice := n, cls := c, merge := 1#8 }], atn := true }
  else if lowestClass q.entries < c then
    { q with
      entries := removeYoungest (lowestClass q.entries) q.entries ++
        [{ notice := n, cls := c, merge := 1#8 }]
      dropped := satInc q.dropped }
  else { q with dropped := satInc q.dropped }

/-- Raises a notice. -/
def State.raiseNotice (n : Notice) (s : State) : State := s.onNotices (·.take n)

/-- The highest class among the waiting entries (R166). -/
def highestClass (l : List NoticeEntry) : Nat := l.foldr (fun e c => max e.cls c) 0

/-- The head: the oldest entry of the highest class (R166). -/
def NoticeQueue.head? (q : NoticeQueue) : Option NoticeEntry :=
  q.entries.find? (·.cls == highestClass q.entries)

/-- The queue without its head; ATN follows (R168, R169, R171). -/
def NoticeQueue.removeHead (q : NoticeQueue) : NoticeQueue :=
  let rest := q.entries.eraseP (·.cls == highestClass q.entries)
  { q with entries := rest, atn := !rest.isEmpty }

/-! ## Raising a fault (R139 to R143) -/

/-- What a raise carries (R139). -/
structure FaultRaise where
  address : Nat
  code : FaultCode
  active : Bool
  sweep : Word
  state : Option StationState
  failure : Option FailureKind
  deriving DecidableEq, Repr

/-- The entry is of the address and code. -/
def FaultEntry.isOf (e : FaultEntry) (a : Nat) (c : FaultCode) : Bool :=
  e.address == a && e.code == c

/-- Which of the three cases of R140 a raise meets. -/
def FaultList.dispose (l : FaultList) (r : FaultRaise) : Disposition :=
  if l.entries.any (·.isOf r.address r.code) then .coalesced
  else if l.entries.length < Config.maxFaults then .appended
  else .overflowed

/-- A raise folded into its entry (R140, Coalesce). -/
def foldRaise (r : FaultRaise) (e : FaultEntry) : FaultEntry :=
  if e.isOf r.address r.code then
    { e with repeats := satInc e.repeats, lastSweep := r.sweep, active := e.active || r.active }
  else e

/-- The entry a raise creates (R140, Append). -/
def FaultRaise.entry (r : FaultRaise) : FaultEntry :=
  { address := r.address, code := r.code, firstSweep := r.sweep, lastSweep := r.sweep,
    repeats := 1#8, active := r.active }

/-- The list after a raise (R140). -/
def FaultList.enter (l : FaultList) (r : FaultRaise) : FaultList :=
  match l.dispose r with
  | .coalesced => { l with entries := l.entries.map (foldRaise r) }
  | .appended => { l with entries := l.entries ++ [r.entry] }
  | .overflowed => { l with overflow := satInc l.overflow }

/-- The capture record after a raise is offered to it (R149). -/
def FaultList.offer (l : FaultList) (r : FaultRaise) (d : Disposition) : Option Capture :=
  match l.capture with
  | some c => some c
  | none => some { address := r.address, code := r.code, sweep := r.sweep, state := r.state,
                   failure := r.failure, active := r.active, disposition := d }

/-- The FLT pin follows the list (R142). -/
def FaultList.setFlt (l : FaultList) : FaultList := { l with flt := anyActive l.entries }

/-- The Fault List takes a raise: the list, the capture record, then FLT, which a momentary or an
overflowed raise leaves as it was (R140, R142). -/
def FaultList.take (r : FaultRaise) (l : FaultList) : FaultList :=
  let d := l.dispose r
  let entered := { l.enter r with capture := l.offer r d }
  if r.active && d != .overflowed then entered.setFlt else entered

/-- The FAULT_RAISED notice of a raise, formed after the list has taken it (R143). -/
def FaultList.notice (l : FaultList) (r : FaultRaise) (d : Disposition) : Notice :=
  .faultRaised r.address r.code d r.sweep
    (match d with
      | .overflowed => none
      | .appended | .coalesced =>
        (l.entries.find? (·.isOf r.address r.code)).map fun e => (e.repeats, e.active))
    l.overflow

/-- Raises a fault: the Fault List takes it, then its notice is raised (R140, R143). -/
def State.raiseFault (r : FaultRaise) (s : State) : State :=
  let taken := s.onFaults (·.take r)
  taken.raiseNotice (taken.faults.notice r (s.faults.dispose r))

/-- A fault of the line or the part itself, at address 0 (R138, R139). -/
def State.raiseLineFault (c : FaultCode) (active : Bool) (s : State) : State :=
  s.raiseFault { address := 0, code := c, active := active, sweep := s.sweep.number, state := none,
                 failure := none }

/-- An entry after an inactive mark for an address and code (R141). -/
def quietEntry (a : Nat) (c : FaultCode) (e : FaultEntry) : FaultEntry :=
  if e.isOf a c then { e with active := false } else e

/-- The list after an inactive mark for an address and code; FLT follows (R141, R142). -/
def FaultList.mark (a : Nat) (c : FaultCode) (l : FaultList) : FaultList :=
  if l.entries.any (fun e => e.isOf a c && e.active) then
    FaultList.setFlt { l with entries := l.entries.map (quietEntry a c) }
  else l

/-- Marks a fault entry inactive (R141). -/
def State.markInactive (a : Nat) (c : FaultCode) (s : State) : State := s.onFaults (·.mark a c)

/-- Marks inactive the entries of a station that can be active (R20, R21, R39). -/
def State.markStation (a : Nat) (s : State) : State :=
  ((s.markInactive a .noAnswer).markInactive a .mismatch).markInactive a .stationAlarm

/-! ## Ending transactions (R134, R135) -/

/-- QUEUED or AWAITING. -/
def Txn.live (t : Txn) : Bool :=
  match t.state with
  | .queued => true
  | .awaiting => true
  | .done _ => false

/-- AWAITING. -/
def Txn.isAwaiting (t : Txn) : Bool := t.state == .awaiting

/-- QUEUED. -/
def Txn.isQueued (t : Txn) : Bool := t.state == .queued

/-- The record with the id (R116). -/
def State.txn? (s : State) (id : Nat) : Option Txn := s.requests.records.find? (·.id == id)

/-- Changes the record with the id, in its place (R116). -/
def State.onTxn (id : Nat) (f : Txn → Txn) (s : State) : State :=
  s.onRequests fun q =>
    { q with records := q.records.map fun t => if t.id = id then f t else t }

/-- Makes a record DONE and raises its REQUEST_DONE (R135); `detail` and `data` are present where the
result came from the station (R114). -/
def State.endTxn (t : Txn) (code : ResultCode) (detail : Option Nat) (data : Option (List Byte))
    (s : State) : State :=
  (s.onTxn t.id fun u =>
    { u with state := .done { code := code, detail := detail, data := data,
                              sweep := s.sweep.number } }).raiseNotice
    (.requestDone t.id code t.address detail)

/-- Ends, in acceptance order, the live records a hand-off names (R134). -/
def State.endTxns (p : Txn → Bool) (code : ResultCode) (s : State) : State :=
  (s.requests.records.filter fun t => t.live && p t).foldl
    (fun s t => s.endTxn t code none none) s

/-- Clears a station's result-waiting mark (R124). -/
def State.clearMark (a : Nat) (s : State) : State :=
  s.onRequests fun q => { q with marks := q.marks.filter (· != a) }

/-- Sets or clears a station's result-waiting mark from an accepted DATA (R35, R124). -/
def State.setMark (a : Nat) (on : Bool) (s : State) : State :=
  s.onRequests fun q =>
    { q with marks := if on then insertAddress a q.marks else q.marks.filter (· != a) }

/-- A station leaves ONLINE or FALTERING: its AWAITING record ends and its mark is cleared (R38). -/
def State.depart (a : Nat) (s : State) : State :=
  (s.endTxns (fun t => t.isAwaiting && t.address == a) .stationDown).clearMark a

/-! ## Station notices (R43) -/

/-- Raises STATION_STATE for a record whose state differs from the one before, or that is fresh. -/
def State.announce (a : Nat) (before : Option StationState) (s : State) : State :=
  match s.station? a with
  | none => s
  | some r => if before = some r.state then s else s.raiseNotice (.stationState a r.state before r.miss)

/-- Changes the line state and raises LINE_STATE (R53). -/
def State.setLine (l : LineState) (s : State) : State :=
  (s.onSweep fun c => { c with line := l }).raiseNotice (.lineState l s.sweep.line)

/-! ## The Host Port: replies and the transmitter (R176 to R180) -/

/-- An owner's answer: the state it leaves and the reply it forms. -/
abbrev Answer := State × Reply

/-- A reply that sets nothing off. -/
def Reply.of (st : Status) (fields : List Byte) : Reply :=
  { status := st, fields := fields, after := .nothing }

/-- The request was taken and carried out: OK with its result fields. -/
def State.ok (s : State) (fields : List Byte) : Answer := (s, .of .ok fields)

/-- The owner refuses the request, which changes nothing; most refusals carry no field (R178). -/
def State.refuse (s : State) (st : Status) : Answer := (s, .of st [])

/-- The KIND of a reply (R178): 0xFF for TAG 0 and for request KINDs from 0x80 on. -/
def replyKind (tag kind : Byte) : Byte :=
  if tag = 0x00#8 then 0xFF#8 else if kind.msb then 0xFF#8 else kind + 0x80#8

/-- The reply frame of an accepted request (R178). -/
def Held.frame (h : Held) : OutFrame :=
  { tag := h.tag, kind := replyKind h.tag h.kind,
    payload := bytes1 h.reply.status.code ++ h.reply.fields }

/-- A notice frame (R168): TAG 0, KIND 0xC0. -/
def noticeFrame (e : NoticeEntry) (dropped : Half) : OutFrame :=
  { tag := 0x00#8, kind := 0xC0#8, payload := e.bytes dropped }

/-- The Host Port takes the head notice: removed, credit lowered by 1, frame formed, ATN set (R168). -/
def State.handOver (e : NoticeEntry) (s : State) : State :=
  (s.onHost fun h => { h with tx := .notice (noticeFrame e s.notices.dropped) }).onNotices
    fun q => { q.removeHead with credit := q.credit - 1 }

/-- The transmitter, when free, takes the reply accepted first, else the notice the Notice Queue
offers, else stays IDLE (R180). Every step ends with this choice (log 6). -/
def State.pump (s : State) : State :=
  match s.host.tx with
  | .idle =>
    match s.host.held with
    | h :: _ => s.onHost fun p => { p with tx := .reply h.frame }
    | [] =>
      if 0 < s.notices.credit then
        match s.notices.head? with
        | some e => s.handOver e
        | none => s
      else s
  | .reply _ => s
  | .notice _ => s

/-- Places of the request buffer that are held (R176). -/
def HostPort.places (h : HostPort) : Nat := (h.held.filter (!·.overflow)).length

/-- Entries of the overflow reply list (R176). -/
def HostPort.overflowing (h : HostPort) : Nat := (h.held.filter (·.overflow)).length

/-- The Host Port holds an accepted request and its reply (R176, R179). -/
def State.hold (h : Held) (s : State) : State := s.onHost fun p => { p with held := p.held ++ [h] }

/-- The receiver pauses, taking no frame, when the overflow list is full (R176, log 4). -/
def HostPort.pauseIfFull (p : HostPort) : HostPort :=
  if p.overflowing = Config.maxOverflow then { p with rx := .paused, rxFrame := none } else p

/-- A good frame finds 4 places held: its OVERFLOW reply is listed and counted, and the receiver pauses
when the list fills (R176, R184). -/
def State.listOverflow (tag kind : Byte) (s : State) : State :=
  (s.hold { overflow := true, tag := tag, kind := kind, reply := .of .overflow [] }).onHost fun p =>
    { p with counters := { p.counters with overflows := satInc p.counters.overflows } }.pauseIfFull

/-- A good frame is accepted (R176): counted, and either taken into a place and answered by `owner`, or
answered BAD_ARG for TAG 0 (R177 check 1), or listed for OVERFLOW. -/
def State.acceptFrame (tag kind : Byte) (owner : State → Answer) (s : State) : State :=
  let counted := s.onHost fun p =>
    { p with counters := { p.counters with good := satInc p.counters.good } }
  if s.host.places < Config.maxPlaces then
    if tag = 0x00#8 then
      counted.hold { overflow := false, tag := tag, kind := kind, reply := .of .badArg [] }
    else
      let answer := owner counted
      answer.1.hold { overflow := false, tag := tag, kind := kind, reply := answer.2 }
  else counted.listOverflow tag kind

/-- The receiver takes frames: neither PAUSED (R176) nor CLOSED (R183). -/
def RxState.open : RxState → Bool
  | .hunt => true
  | .length => true
  | .body => true
  | .check => true
  | .paused => false
  | .closed => false

/-- A host request as its own command: its good frame is accepted unless the receiver passes bytes
over (log 4), and the transmitter then chooses. -/
def State.request (tag kind : Byte) (owner : State → Answer) (s : State) : State :=
  if s.host.rx.open then (s.acceptFrame tag kind owner).pump else s

end Sys2Proof.Machine
end

