-- ==== Sys2Proof/Machine/Exchange.lean ====
section
/-! DEFINITION. The Link Engine's own operations: taking an exchange, beginning an attempt, the guard,
abandoning, and the line counters (chapter 4). -/

namespace Sys2Proof.Machine

/-- The character time at the committed line speed, in clock cycles (R74, R22). -/
def State.charCycles (s : State) : Nat := s.roster.committed.header.speed.charCycles

/-- An attempt is in flight: its frame is being sent, its window runs or its reply is being taken. -/
def EngineState.attempting : EngineState → Bool
  | .sending => true
  | .window => true
  | .receiving => true
  | .idle => false
  | .guard => false

/-- Begins an attempt: SENDING with the driver enabled, the reply window and the character time fixed,
and no echo come back (R75, R81, R93). -/
def State.beginAttempt (x : Exchange) (s : State) : State :=
  s.onEngine fun e =>
    { e with
      state := .sending
      attempt := some { toggle := x.toggle, window := s.roster.committed.header.window,
                        echoed := 0, charTime := s.charCycles }
      due := s.now + (x.payload.length + 6) * s.charCycles
      lde := true }

/-- Hands an exchange to the engine: in IDLE its first attempt begins at once, in GUARD or behind an
unawaited frame it is held (R80, R92). -/
def State.hand (x : Exchange) (s : State) : State :=
  let held := s.onEngine fun e => { e with exchange := some x }
  if s.engine.state == .idle && s.engine.frame.isNone then held.beginAttempt x else held

/-- The SAFE broadcast: one frame to address 127, no payload, no reply (R51, R91). -/
def safeExchange : Exchange :=
  { chooser := .safe, kind := .safe, address := 127, payload := [], toggle := false, limit := 1,
    made := 0, lastFailure := none }

/-- An IDENT exchange (R76, R85). -/
def identExchange (c : Chooser) (a limit : Nat) : Exchange :=
  { chooser := c, kind := .ident, address := a, payload := [], toggle := false, limit := limit,
    made := 0, lastFailure := none }

/-- The guard of 4 character times that follows an attempt ended at an instant (R84). -/
def State.startGuard (endedAt : Nat) (s : State) : State :=
  s.onEngine fun e =>
    { e with state := .guard, attempt := none, frame := none, due := endedAt + 4 * s.charCycles }

/-- The exchange in flight ends or is dropped before its attempt (R85, R89). -/
def State.dropExchange (s : State) : State := s.onEngine fun e => { e with exchange := none }

/-- Contention and entering OFF leave the engine IDLE, the driver released and nothing in flight (R90). -/
def State.abandon (s : State) : State :=
  s.onEngine fun e =>
    { e with state := .idle, exchange := none, attempt := none, frame := none, lde := false }

/-- Changes the line counters (R94). -/
def State.countLine (f : LineCounters → LineCounters) (s : State) : State :=
  s.onEngine fun e => { e with counters := f e.counters }

/-- The judged attempt counted on the line: good replies, timeouts or corrupt (R94). -/
def countResult : Option FailureKind → LineCounters → LineCounters
  | none, c => { c with good := satInc c.good }
  | some .timeout, c => { c with timeouts := satInc c.timeouts }
  | some .corrupt, c => { c with corrupt := satInc c.corrupt }

/-- The line's characters are taken: not in OFF, and not in HALTED (R46, R50). -/
def LineState.hears : LineState → Bool
  | .listening => true
  | .ready => true
  | .sweeping => true
  | .surveying => true
  | .off => false
  | .halted _ => false

/-- What LTX carries: the master frame being sent, or nothing, the pin idling high (R75, log 24). -/
def State.ltx (s : State) : Option (List Byte) :=
  if s.engine.state == .sending then s.engine.exchange.map Exchange.bytes else none

/-- What HTX carries: the host frame being sent, or nothing, the pin idling high (R172, log 24). -/
def State.htx (s : State) : Option (List Byte) :=
  match s.host.tx with
  | .idle => none
  | .reply f => some f.bytes
  | .notice f => some f.bytes

end Sys2Proof.Machine
end

