-- ==== Sys2Proof/Machine/Application.lean ====
section
/-! DEFINITION. Applying a roster (R18 to R23, R97) and the fallback values (R98). -/

namespace Sys2Proof.Machine

/-- The fallback value of a new image (R98): the pattern, or zeros for ZERO and HOLD. -/
def RosterEntry.newFallback (e : RosterEntry) : List Byte :=
  match e.fallback with
  | .zero => List.replicate e.outWidth 0#8
  | .hold => List.replicate e.outWidth 0#8
  | .pattern p => p

/-- A fresh station record (R20, R25). -/
def RosterEntry.freshStation (e : RosterEntry) : Station :=
  { address := e.address, state := if e.startDisabled then .disabled else .pending, miss := 0,
    toggle := false, flags := .clear, identity := none, attempts := 0#32, timeouts := 0#32,
    corrupt := 0#32, failed := 0#32, joins := 0#32, probeFailures := 0#32 }

/-- A new station image (R20, R96). -/
def RosterEntry.newImage (e : RosterEntry) : Image :=
  { address := e.address, staged := e.newFallback, origin := .fallback, latched := e.newFallback,
    latchedIn := none, working := List.replicate e.inWidth 0#8, delivered := false,
    validity := .absent, published := none, lastFresh := none }

/-- The five key fields are equal (R3, R18). -/
def RosterEntry.sameKey (e f : RosterEntry) : Bool :=
  e.classCode == f.classCode && e.inWidth == f.inWidth && e.outWidth == f.outWidth &&
  e.divisor == f.divisor && e.missLimit == f.missLimit

/-- The class of an address at an application (R18). -/
inductive AddressClass where
  | kept | changed | new | removed
  deriving DecidableEq, Repr

/-- Classes an address that appears in either roster (R18). -/
def addressClass (old new : Roster) (a : Nat) : AddressClass :=
  match old.entry? a, new.entry? a with
  | some e, some f => if e.sameKey f then .kept else .changed
  | none, some _ => .new
  | some _, none => .removed
  | none, none => .kept

/-- Every address of either roster, ascending (R18). -/
def unionAddresses (old new : Roster) : List Nat :=
  (new.entries.map (·.address)).foldl (fun l a => insertAddress a l)
    (old.entries.map (·.address))

/-- The records after an application: kept, or fresh (R19, R20, R21, R24). -/
def rebuildStations (old new : Roster) (l : List Station) : List Station :=
  new.entries.map fun e =>
    match addressClass old new e.address, l.find? (·.address == e.address) with
    | .kept, some r => r
    | _, _ => e.freshStation

/-- The images after an application: kept, or new (R19, R20, R21, R97). -/
def rebuildImages (old new : Roster) (l : List Image) : List Image :=
  new.entries.map fun e =>
    match addressClass old new e.address, l.find? (·.address == e.address) with
    | .kept, some i => i
    | _, _ => e.newImage

/-- The result-waiting marks after an application: those of Kept addresses (R19 to R21, R124). -/
def rebuildMarks (old new : Roster) (l : List Nat) : List Nat :=
  l.filter fun a => addressClass old new a == .kept

/-- Records, images and marks after an application. -/
def State.rebuild (old new : Roster) (s : State) : State :=
  ((s.onStations (rebuildStations old new)).onImage fun m =>
      { m with images := rebuildImages old new m.images }).onRequests fun q =>
    { q with marks := rebuildMarks old new q.marks }

/-- What an application does to one address beside its record and image: transactions end, faults are
marked inactive, and a fresh record is announced (R20, R21, in the order of R43). -/
def State.applyAddress (old new : Roster) (a : Nat) (s : State) : State :=
  match addressClass old new a with
  | .kept => s
  | .changed =>
    ((s.endTxns (fun t => t.isAwaiting && t.address == a) .stationDown).markStation a).announce a none
  | .new => s.announce a none
  | .removed => (s.endTxns (fun t => t.address == a) .stationRemoved).markStation a

/-- The COMMIT_APPLIED notice (R23). -/
def commitNotice (old new : Roster) (generation : Word) : Notice :=
  let all := unionAddresses old new
  let count (c : AddressClass) : Nat := (all.filter fun a => addressClass old new a == c).length
  .commitApplied generation (count .kept) (count .changed) (count .new) (count .removed)

/-- Applies a roster: the addresses in ascending order, then the header with the new roster, the
generation and COMMIT_APPLIED (R18 to R23). -/
def State.applyRoster (new : Roster) (s : State) : State :=
  let old := s.roster.committed
  let generation := s.roster.generation + 1#32
  (((unionAddresses old new).foldl (fun s a => s.applyAddress old new a)
      (s.rebuild old new)).onRoster fun m =>
    { m with committed := new, generation := generation }).raiseNotice
    (commitNotice old new generation)

/-- Applies the pending commit copy, if there is one, and discards it (R17, R23, R66). -/
def State.applyPending (s : State) : State :=
  match s.roster.pendingCopy with
  | none => s
  | some new => (s.onRoster fun m => { m with pendingCopy := none }).applyRoster new

end Sys2Proof.Machine
end

