-- ==== Sys2Proof/Machine/Sweep.lean ====
section
/-! DEFINITION. The Sweep Controller at work: line state changes, the five phases of a sweep, pacing,
cuts, the policy halt, contention and the survey (chapters 3 and 8). -/

namespace Sys2Proof.Machine

/-! ## Latch and publication (R61, R99, R104) -/

/-- Latches one image for the sweep that starts (R99). -/
def Image.latch (number : Word) (i : Image) : Image :=
  { i with latched := i.staged, latchedIn := some number, delivered := false }

/-- The pacing schedule counts the sweep that starts; the first one since the base sets the base by its
own start (R55, R61, R67). -/
def Pacing.start (now : Nat) (p : Pacing) : Pacing :=
  { base := if p.count = 0 then now else p.base, count := p.count + 1 }

/-- The Latch phase, whole: number, duration measurement, pacing, outputs; the phase is then CYCLIC (R61). -/
def State.latch (s : State) : State :=
  let number := s.sweep.number + 1#32
  (s.onSweep fun c =>
    { c with
      number := number, phase := .cyclic, startedAt := s.now,
      pacing := c.pacing.map (Pacing.start s.now), cursor := 0, slots := 0,
      passedOver := [] }).onImage fun m =>
    { m with images := m.images.map (Image.latch number) }

/-- Publishes one image (R104). -/
def Image.publish (number : Word) (i : Image) : Image :=
  if i.delivered then
    { i with validity := .fresh, published := some i.working, lastFresh := some number }
  else
    match i.lastFresh with
    | some _ => { i with validity := .held }
    | none => { i with validity := .absent, published := none }

/-- Publishes the working inputs under the sweep's number, with the flag CUT or COMPLETE (R104). -/
def State.publish (cut : Bool) (s : State) : State :=
  s.onImage fun m =>
    { m with
      images := m.images.map (Image.publish s.sweep.number)
      snapshotSweep := s.sweep.number
      snapshotCut := cut }

/-! ## Changes of line state (R53) -/

/-- A line that goes down ends every AWAITING record (R53, R134). -/
def State.lineDown (s : State) : State := s.endTxns (·.isAwaiting) .lineDown

/-- What leaving SWEEPING, SURVEYING or a closing clears in the controller (R49, R51, R58). -/
def SweepController.settle (c : SweepController) : SweepController :=
  { c with closing := none, stop := false, phase := .idle, pacing := none, cut := false }

/-- The line goes to READY from SWEEPING (R57, R58). -/
def State.goReady (s : State) : State := (s.onSweep (·.settle)).setLine .ready

/-- The line enters OFF (R51, R53); leaving HALTED(CONTENTION) marks its fault inactive (R50). -/
def State.enterOff (s : State) : State :=
  let off := ((s.lineDown.abandon).onSweep (·.settle)).setLine .off
  if s.sweep.line = .halted .contention then off.markInactive 0 .contention else off

/-- The line enters HALTED(POLICY) (R53, R70). -/
def State.enterPolicyHalt (s : State) : State :=
  ((s.lineDown.abandon).onSweep (·.settle)).setLine (.halted .policy)

/-! ## The Cyclic phase (R60, R62, R87) -/

/-- The station is due in a sweep (R60). -/
def RosterEntry.isDue (e : RosterEntry) (number : Word) : Bool :=
  number.toNat % e.divisor == e.address % e.divisor

/-- The Cyclic phase sends a station in this state an exchange (R26, R62). -/
def StationState.servedCyclic : StationState → Bool
  | .pending => true
  | .online => true
  | .faltering => true
  | .lost | .parked | .mismatched | .disabled => false

/-- The next due station above the one last reached that is sent an exchange (R62). -/
def State.nextCyclic (s : State) : Option RosterEntry :=
  s.roster.committed.entries.find? fun e =>
    decide (s.sweep.cursor < e.address) && e.isDue s.sweep.number &&
    ((s.station? e.address).elim false fun r => r.state.servedCyclic)

/-- Hands over a station's cyclic exchange: POLL with the latched outputs and the flipped toggle, or
IDENT for a PENDING station (R62, R85, R87). -/
def State.handCyclic (e : RosterEntry) (s : State) : State :=
  let limit := 1 + s.roster.committed.header.repeats
  let reached := s.onSweep fun c => { c with cursor := e.address }
  if s.polled e.address then
    let flipped := reached.onStation e.address fun r => { r with toggle := !r.toggle }
    flipped.hand
      { chooser := .cyclic, kind := .poll, address := e.address,
        payload := (s.image? e.address).elim [] (·.latched),
        toggle := (flipped.station? e.address).elim false (·.toggle),
        limit := limit, made := 0, lastFailure := none }
  else reached.hand (identExchange .cyclic e.address limit)

/-! ## The Acyclic and Probe phases (R63, R64, R125, R126) -/

/-- Some record of the station is AWAITING (R116, R125). -/
def State.hasAwaiting (s : State) (a : Nat) : Bool :=
  s.requests.records.any fun t => t.isAwaiting && t.address == a

/-- The number of AWAITING records (R116). -/
def RequestQueue.awaiting (q : RequestQueue) : Nat := (q.records.filter (·.isAwaiting)).length

/-- The station may be chosen in this phase: none of its exchanges has failed in it (R126). -/
def State.eligible (s : State) (a : Nat) : Bool := !s.sweep.passedOver.contains a

/-- A FETCH exchange carrying an id, 0 for a drain fetch (R127). -/
def fetchExchange (a id : Nat) : Exchange :=
  { chooser := .acyclic, kind := .fetch, address := a, payload := bytes1 id, toggle := false,
    limit := 1, made := 0, lastFailure := none }

/-- A REQ exchange for a record (R127). -/
def reqExchange (t : Txn) : Exchange :=
  { chooser := .acyclic, kind := .req, address := t.address,
    payload := bytes1 t.id ++ bytes1 t.service ++ t.data, toggle := false, limit := 1, made := 0,
    lastFailure := none }

/-- Choice 1 of R125: the oldest AWAITING record whose station has its mark set. -/
def State.fetchChoice (s : State) : Option Exchange :=
  (s.requests.records.find? fun t =>
    t.isAwaiting && s.requests.marks.contains t.address && s.eligible t.address).map fun t =>
    fetchExchange t.address t.id

/-- Choice 2 of R125: the lowest address with its mark set and no AWAITING record. -/
def State.drainChoice (s : State) : Option Exchange :=
  (s.requests.marks.find? fun a => !s.hasAwaiting a && s.eligible a).map fun a => fetchExchange a 0

/-- Choice 3 of R125: the oldest QUEUED record whose station is polled and awaits nothing. -/
def State.reqChoice (s : State) : Option Exchange :=
  if s.requests.awaiting < Config.maxAwaiting then
    (s.requests.records.find? fun t =>
      t.isQueued && s.polled t.address && !s.hasAwaiting t.address && s.eligible t.address).map
      reqExchange
  else none

/-- The Request Queue's choice for a slot (R125). -/
def State.slotChoice (s : State) : Option Exchange :=
  s.fetchChoice.or (s.drainChoice.or s.reqChoice)

/-- The LOST station the Probe phase reaches: ascending after the pointer, then from 1 (R64). -/
def State.probeChoice (s : State) : Option Nat :=
  let lost := (s.roster.committed.entries.map (·.address)).filter fun a =>
    (s.station? a).elim false fun r => r.state == .lost
  (lost.find? fun a => decide (s.sweep.probe < a)).or lost.head?

/-- The Probe phase: one IDENT to a LOST station, or on to END (R64). -/
def State.probePhase (s : State) : State :=
  match s.probeChoice with
  | some a =>
    (s.onSweep fun c => { c with phase := .probe, probe := a }).hand (identExchange .probe a 1)
  | none => s.onSweep fun c => { c with phase := .ending }

/-- The next slot of the Acyclic phase, or on to PROBE (R63). -/
def State.acyclicPhase (s : State) : State :=
  if s.sweep.slots = 0 then s.probePhase
  else
    match s.slotChoice with
    | some x => (s.onSweep fun c => { c with slots := c.slots - 1 }).hand x
    | none => s.probePhase

/-- The Acyclic phase begins with as many slots as the budget in the committed header (R63). -/
def State.startAcyclic (s : State) : State :=
  (s.onSweep fun c =>
    { c with phase := .acyclic, slots := s.roster.committed.header.budget,
             passedOver := [] }).acyclicPhase

/-- The Cyclic phase goes on: the next station's exchange, or on to ACYCLIC (R62). -/
def State.cyclicPhase (s : State) : State :=
  match s.nextCyclic with
  | some e => s.handCyclic e
  | none => s.startAcyclic

/-! ## The End phase and the plan (R58, R65, R67, R68, R72) -/

/-- A completed sweep's duration in whole microseconds, saturating (R72). -/
def State.duration (s : State) : Word :=
  BitVec.ofNat 32 (min ((s.now - s.sweep.startedAt) / Config.cyclesPerMicrosecond) 0xFFFFFFFE)

/-- The statistics after a completed sweep (R72). -/
def SweepStats.complete (d : Word) (t : SweepStats) : SweepStats :=
  { t with
    last := d
    minimum := if d < t.minimum then d else t.minimum
    maximum := if t.maximum < d then d else t.maximum
    completed := satInc t.completed }

/-- The committed roster has no entries (R55, R58). -/
def State.rosterEmpty (s : State) : Bool := s.roster.committed.entries.isEmpty

/-- The scheduled start of the next sweep of a PACED plan (R67). -/
def Pacing.next (p : Pacing) (period : Nat) : Nat :=
  p.base + p.count * (period * (100 * Config.cyclesPerMicrosecond))

/-- The scheduled start of the next sweep, where the plan is PACED (R67). -/
def SweepController.waitDue (c : SweepController) : Option Nat :=
  match c.plan, c.pacing with
  | .paced period, some p => some (p.next period)
  | _, _ => none

/-- The next sweep begins at once: its Latch, and its phases up to its first exchange, or up to END where
it has none to make (R58, R61, R62; log 7). -/
def State.nextSweep (s : State) : State := s.latch.cyclicPhase

/-- An overrun: counted, raised as a momentary fault, and the schedule re-based at the successor's
start, which the Latch that follows sets (R68). -/
def State.overrun (s : State) : State :=
  ((s.onSweep fun c => { c with stats := { c.stats with overruns := satInc c.stats.overruns } })
    |>.raiseLineFault .overrun false).onSweep fun c =>
    { c with pacing := c.pacing.map fun p => { p with count := 0 } }

/-- The plan calls for a successor: at once, or under PACED at its scheduled time, or at once with an
overrun (R58, R67, R68). -/
def State.successor (s : State) : State :=
  match s.sweep.waitDue with
  | none => s.nextSweep
  | some due =>
    if s.now < due then s.onSweep fun c => { c with phase := .wait }
    else if s.now = due then s.nextSweep
    else s.overrun.nextSweep

/-- Sweeps remaining after a completed sweep: lowered by 1 under COUNTED (R58). -/
def SweepController.countDown (c : SweepController) : SweepController :=
  match c.plan with
  | .counted _ => { c with remaining := c.remaining - 1 }
  | .free => c
  | .paced _ => c

/-- What follows a completed sweep (R58). -/
def State.planDecision (s : State) : State :=
  let counted := s.onSweep (·.countDown)
  let goOn := if counted.sweep.stop || counted.rosterEmpty then counted.goReady else counted.successor
  match counted.sweep.plan with
  | .counted n =>
    if counted.sweep.remaining = 0 then
      (counted.raiseNotice (.sweepDone n counted.sweep.number)).goReady
    else goOn
  | .free => goOn
  | .paced _ => goOn

/-- The End phase of a sweep that has not been cut (R65). -/
def State.endPhase (s : State) : State :=
  ((s.publish false).onSweep fun c =>
    { c with stats := c.stats.complete s.duration, act := !c.act }).applyPending.planDecision

/-- A sweep that has gone through its phases ends (R65). -/
def State.finish (s : State) : State := if s.sweep.phase = .ending then s.endPhase else s

/-- The Cyclic phase goes on, and the sweep ends where nothing is left to send (R62, R65). -/
def State.runCyclic (s : State) : State := s.cyclicPhase.finish

/-- The Acyclic phase goes on, and the sweep ends where nothing is left to send (R63, R65). -/
def State.runAcyclic (s : State) : State := s.acyclicPhase.finish

/-- A sweep begins (R55, R56, R61). -/
def State.beginSweep (s : State) : State := s.latch.runCyclic

/-- A new sweep is about to begin where the committed roster may have become empty (R58). -/
def State.beginUnlessEmpty (s : State) : State :=
  if s.rosterEmpty then s.goReady else s.beginSweep

/-! ## Cuts and closing (R51, R69 to R71, R156) -/

/-- Ends a cut sweep: publication with the flag CUT, the abandoned sweep counted, the pending copy
applied (R69 steps 1 to 3). -/
def State.cutSweep (s : State) : State :=
  ((s.publish true).onSweep fun c =>
    { c with stats := { c.stats with abandoned := satInc c.stats.abandoned }, cut := false,
             phase := .idle }).applyPending

/-- The SURVEY_DONE notice (R155). -/
def SurveyUnit.notice (u : SurveyUnit) : Notice :=
  .surveyDone u.status u.done u.foundTotal u.noisy u.overflow u.found.length

/-- Ends a running survey under a status and raises SURVEY_DONE (R155, R156). -/
def State.finishSurvey (st : SurveyStatus) (s : State) : State :=
  let ended := s.onSurvey fun u => { u with status := st, current := none }
  ended.raiseNotice ended.survey.notice

/-- Hands over the SAFE broadcast of a closing (R51, R91). -/
def State.handSafe (s : State) : State := s.hand safeExchange

/-- A closing begins (R51, R70). -/
def State.close (c : Closing) (s : State) : State :=
  s.onSweep fun w => { w with closing := some c }

/-- The LINE_STOP closing (R51). -/
def stopClosing : Closing := { target := .off, byHalt := false }

/-- A policy halt: the sweep is cut, the line closes toward HALTED(POLICY) and SAFE is sent (R70). -/
def State.policyHalt (s : State) : State :=
  (s.cutSweep.close { target := .haltedPolicy, byHalt := true }).handSafe

/-- The frame boundary of a cut has been reached: a cut sweep ends and its new plan begins, or the
SAFE broadcast of its LINE_STOP is sent; a cut survey ends and its SAFE is sent (R69, R89, R156). -/
def State.boundaryReached (s : State) : State :=
  if s.sweep.line = .surveying then (s.finishSurvey .cut).handSafe
  else if s.sweep.closing.isSome then s.cutSweep.handSafe
  else s.cutSweep.beginUnlessEmpty

/-- The exchange in flight is being ended by the frame-boundary rule (R89). -/
def State.ending (s : State) : Bool :=
  s.sweep.cut || (s.sweep.line == .surveying && s.sweep.closing.isSome)

/-- A cut is taken: an attempt in flight runs to its end, otherwise the boundary is reached at once and
an exchange not begun is dropped (R69, R89). -/
def State.takeCut (s : State) : State :=
  if s.engine.state.attempting then s else s.dropExchange.boundaryReached

/-- A sweep is running: its phase is one of the five (R49, R51). -/
def Phase.running : Phase → Bool
  | .latch => true
  | .cyclic => true
  | .acyclic => true
  | .probe => true
  | .ending => true
  | .idle => false
  | .wait => false

/-- Contention's steps 1 to 3: a running sweep is cut, a copy pending outside a sweep is applied, a
running survey ends CUT (R49, R66, R71, R156). -/
def State.cutForContention (s : State) : State :=
  let swept :=
    if s.sweep.line = .sweeping then
      if s.sweep.phase.running then s.cutSweep else s.applyPending
    else s
  if s.survey.status = .running then swept.finishSurvey .cut else swept

/-- Contention: everything in flight is abandoned at once and the line is HALTED(CONTENTION) (R49). -/
def State.contention (s : State) : State :=
  ((s.abandon.cutForContention.onSweep (·.settle)).lineDown.raiseLineFault .contention true).setLine
    (.halted .contention)

/-! ## The survey (R152 to R155) -/

/-- The Survey Unit begins a new survey (R152). -/
def SurveyUnit.start (generation : Word) : SurveyUnit :=
  { status := .running, found := [], overflow := false, done := 0, foundTotal := 0, noisy := 0,
    current := some 1, startGeneration := some generation }

/-- One survey outcome: a good IDREPLY, a corrupt reply or a timeout (R154). -/
def SurveyUnit.note (a : Nat) (r : Except FailureKind Identity) (u : SurveyUnit) : SurveyUnit :=
  match r with
  | .ok identity =>
    if u.found.length < Config.maxStations then
      { u with foundTotal := u.foundTotal + 1, done := a,
               found := u.found ++ [{ address := a, identity := identity }] }
    else { u with foundTotal := u.foundTotal + 1, overflow := true, done := a }
  | .error .corrupt => { u with noisy := u.noisy + 1, done := a }
  | .error .timeout => { u with done := a }

/-- The survey goes on to the next address, or ends after 119 and the line returns to READY (R153, R155). -/
def State.surveyNext (a : Nat) (s : State) : State :=
  if a < 119 then
    (s.onSurvey fun u => { u with current := some (a + 1) }).hand (identExchange .survey (a + 1) 1)
  else (s.finishSurvey .done).setLine .ready

end Sys2Proof.Machine
end

