-- ==== Sys2Proof/Machine/Outcomes.lean ====
section
/-! DEFINITION. What a judged attempt leads to: the attempt report, the outcomes of cyclic, probe,
acyclic and survey exchanges, and the end of a received frame (R27 to R38, R82 to R92, R127 to R130). -/

namespace Sys2Proof.Machine

/-! ## Attempt reports (R27, R44) -/

/-- A record's counters after one judged attempt; `r` is none for a good one. -/
def Station.report (r : Option FailureKind) (t : Station) : Station :=
  { t with
    attempts := satInc t.attempts
    timeouts := if r = some .timeout then satInc t.timeouts else t.timeouts
    corrupt := if r = some .corrupt then satInc t.corrupt else t.corrupt }

/-- The exchange's attempts are reported to the addressed station's record (R83). -/
def Chooser.reports : Chooser → Bool
  | .cyclic => true
  | .acyclic => true
  | .probe => true
  | .survey => false
  | .safe => false

/-- Hands the attempt report to the station record, where there is one. -/
def State.reportAttempt (x : Exchange) (r : Option FailureKind) (s : State) : State :=
  if x.chooser.reports then s.onStation x.address (·.report r) else s

/-! ## Cyclic outcomes (R28 to R32, R34 to R37) -/

/-- The state a cyclic failure leaves, by the new miss count and the rejoin policy (R28, R29). -/
def StationState.afterFailure (limit miss : Nat) (p : RejoinPolicy) (st : StationState) :
    StationState :=
  if limit ≤ miss then
    match p with
    | .auto => .lost
    | .hold => .parked
    | .halt => .lost
  else
    match st with
    | .online => .faltering
    | .pending | .faltering | .lost | .parked | .mismatched | .disabled => st

/-- A record after a cyclic failure (R28). -/
def Station.fail (limit : Nat) (p : RejoinPolicy) (t : Station) : Station :=
  { t with
    miss := t.miss + 1
    failed := satInc t.failed
    state := t.state.afterFailure limit (t.miss + 1) p }

/-- The NO_ANSWER raise of a station that reached its miss limit (R29, R139). -/
def noAnswerRaise (a : Nat) (st : StationState) (k : FailureKind) (s : State) : FaultRaise :=
  { address := a, code := .noAnswer, active := true, sweep := s.sweep.number, state := some st,
    failure := some k }

/-- The station leaves ONLINE or FALTERING only if it was there (R38). -/
def State.departFrom (before : StationState) (a : Nat) (s : State) : State :=
  if before.polled then s.depart a else s

/-- A cyclic failure applied to a record, in the order of R43, but for the policy halt. -/
def State.applyFailure (e : RosterEntry) (t : Station) (k : FailureKind) (s : State) : State :=
  let policy := s.roster.committed.header.policy
  let failed := s.onStation t.address (·.fail e.missLimit policy)
  if e.missLimit ≤ t.miss + 1 then
    let gone := failed.departFrom t.state t.address
    (gone.raiseFault
      (noAnswerRaise t.address (t.state.afterFailure e.missLimit (t.miss + 1) policy) k gone)).announce
      t.address (some t.state)
  else failed.announce t.address (some t.state)

/-- The exchange's frame would be sent to a station in this state (R26, R37). -/
def StationState.takes (x : Exchange) (st : StationState) : Bool :=
  match x.chooser, x.kind with
  | .cyclic, .poll => st.polled
  | .cyclic, .ident => st == .pending
  | .probe, .ident => st == .lost
  | _, _ => false

/-- The record that an exchange's outcome is applied to; none where the outcome is discarded (R37). -/
def State.taker (x : Exchange) (s : State) : Option Station :=
  (s.station? x.address).filter (·.state.takes x)

/-- An ALARM edge, judged against the stored flag; `seen` is the state in which it was seen (R34,
R43, log 18). -/
def State.alarmEdge (a : Nat) (seen : StationState) (old new : Bool) (s : State) : State :=
  if new && !old then
    s.raiseFault
      { address := a, code := .stationAlarm, active := true, sweep := s.sweep.number,
        state := some seen, failure := none }
  else if old && !new then s.markInactive a .stationAlarm
  else s

/-- A record after an accepted DATA, but for its flags (R30, R36). -/
def Station.accept (restarted : Bool) (t : Station) : Station :=
  { t with miss := 0, state := if restarted then .pending else .online }

/-- The Image Store takes an accepted DATA's inputs (R103). -/
def Image.deliver (inputs : List Byte) (i : Image) : Image :=
  { i with working := inputs, delivered := true }

/-- An accepted DATA (R30, R34 to R36): inputs, record, departure or mark, ALARM, RESTARTED, the flags
stored, the notice. -/
def State.acceptData (t : Station) (flags : StatusFlags) (inputs : List Byte) (s : State) : State :=
  let a := t.address
  let taken := (s.onImageOf a (·.deliver inputs)).onStation a (·.accept flags.restarted)
  let marked := if flags.restarted then taken.depart a else taken.setMark a flags.resultReady
  let alarmed := marked.alarmEdge a t.state t.flags.alarm flags.alarm
  let raised :=
    if flags.restarted then
      alarmed.raiseFault
        { address := a, code := .restarted, active := false, sweep := s.sweep.number,
          state := some .pending, failure := none }
    else alarmed
  (raised.onStation a fun r => { r with flags := flags }).announce a (some t.state)

/-- An identity matches an entry: class, unless the entry accepts any, and both widths (R32). -/
def RosterEntry.accepts (e : RosterEntry) (i : Identity) : Bool :=
  (e.classCode == 0 || i.classCode == e.classCode) && i.inWidth == e.inWidth &&
  i.outWidth == e.outWidth

/-- A record admitted by a matching IDREPLY (R31, R33). -/
def Station.admitted (i : Identity) (t : Station) : Station :=
  { t with identity := some i, miss := 0, toggle := false, state := .online, joins := satInc t.joins }

/-- A record whose IDREPLY does not match its entry (R32). -/
def Station.mismatch (i : Identity) (t : Station) : Station :=
  { t with identity := some i, miss := 0, state := .mismatched }

/-- An IDREPLY judged against the entry: admission, or MISMATCHED with its fault (R31, R32). -/
def State.applyIdentity (e : RosterEntry) (t : Station) (i : Identity) (s : State) : State :=
  if e.accepts i then (s.onStation t.address (·.admitted i)).announce t.address (some t.state)
  else
    ((s.onStation t.address (·.mismatch i)).raiseFault
      { address := t.address, code := .mismatch, active := true, sweep := s.sweep.number,
        state := some .mismatched, failure := none }).announce t.address (some t.state)

/-- A success outcome of a cyclic exchange or a probe's reply, applied or discarded (R30 to R33, R37). -/
def State.stationSuccess (x : Exchange) (g : GoodReply) (s : State) : State :=
  match s.taker x, s.entry? x.address with
  | some t, some e =>
    match g with
    | .data flags inputs => s.acceptData t flags inputs
    | .idreply i =>
      if x.chooser = .probe then (s.markInactive t.address .noAnswer).applyIdentity e t i
      else s.applyIdentity e t i
    | .reqack _ _ _ => s
    | .result _ _ _ => s
    | .notready => s
  | _, _ => s

/-- A cyclic failure outcome, applied or discarded (R28, R29, R37). -/
def State.cyclicFailure (x : Exchange) (k : FailureKind) (s : State) : State :=
  match s.taker x, s.entry? x.address with
  | some t, some e => s.applyFailure e t k
  | _, _ => s

/-- The failure outcome brings its station to the miss limit under HALT (R29). -/
def State.haltsOn (x : Exchange) (s : State) : Bool :=
  match s.taker x, s.entry? x.address with
  | some t, some e =>
    decide (e.missLimit ≤ t.miss + 1) && s.roster.committed.header.policy == .halt
  | _, _ => false

/-- A probe without a reply (R33, R37). -/
def State.probeFailure (x : Exchange) (s : State) : State :=
  match s.taker x with
  | some t => s.onStation t.address fun r => { r with probeFailures := satInc r.probeFailures }
  | none => s

/-! ## Acyclic outcomes (R126 to R131) -/

/-- The transaction id a REQ or FETCH carries; 0 for a drain fetch (R127). -/
def Exchange.txnId (x : Exchange) : Nat := (x.payload.head?.getD 0#8).toNat

/-- A judged REQ or FETCH attempt counts in the record its frame names (R127, log 30). -/
def State.countAttempt (x : Exchange) (s : State) : State :=
  s.onTxn x.txnId fun t => { t with attempts := satInc t.attempts }

/-- An orphan result (R131). -/
def State.orphan (s : State) : State :=
  s.onRequests fun q => { q with orphans := satInc q.orphans }

/-- The result code of a result with a detail (R128, R130). -/
def resultCode (detail : Nat) : ResultCode := if detail = 0 then .ok else .stationError

/-- A REQACK for a record that is still QUEUED (R128; R129, second case). -/
def State.reqackQueued (t : Txn) (o : ReqOutcome) (detail : Nat) (data : List Byte) (s : State) :
    State :=
  match o with
  | .accepted =>
    if s.polled t.address then s.onTxn t.id fun u => { u with state := .awaiting }
    else s.endTxn t .stationDown none none
  | .complete => s.endTxn t (resultCode detail) (some detail) (some data)
  | .refused => s.endTxn t .refused (some detail) none

/-- A REQACK for the record that was sent (R128, R129): a late COMPLETE is an orphan. -/
def State.reqack (a id : Nat) (o : ReqOutcome) (detail : Nat) (data : List Byte) (s : State) :
    State :=
  match (s.txn? id).filter fun t => t.isQueued && t.address == a with
  | some t => s.reqackQueued t o detail data
  | none => if o = .complete then s.orphan else s

/-- A RESULT, matched against the answering station's own AWAITING record (R130). -/
def State.fetched (a id detail : Nat) (data : List Byte) (s : State) : State :=
  match s.requests.records.find? fun t => t.isAwaiting && t.address == a && t.id == id with
  | some t => (s.endTxn t (resultCode detail) (some detail) (some data)).clearMark a
  | none => s.orphan.clearMark a

/-- A good answer to a REQ or FETCH (R128 to R130). -/
def State.acyclicSuccess (x : Exchange) (g : GoodReply) (s : State) : State :=
  let counted := s.countAttempt x
  match g with
  | .reqack o detail data => counted.reqack x.address x.txnId o detail data
  | .result id detail data => counted.fetched x.address id detail data
  | .notready => counted.clearMark x.address
  | .data _ _ => counted
  | .idreply _ => counted

/-- A failed REQ or FETCH: counted, and its station passed over for the rest of the phase (R126, R127). -/
def State.acyclicFailure (x : Exchange) (s : State) : State :=
  (s.countAttempt x).onSweep fun c => { c with passedOver := c.passedOver ++ [x.address] }

/-! ## Handing on and going on (R83, R85) -/

/-- The outcome of an exchange that ended good, handed to its chooser's side (R85). -/
def State.success (x : Exchange) (g : GoodReply) (s : State) : State :=
  match x.chooser with
  | .cyclic => s.stationSuccess x g
  | .probe => s.stationSuccess x g
  | .acyclic => s.acyclicSuccess x g
  | .survey =>
    match g with
    | .idreply i => s.onSurvey (·.note x.address (.ok i))
    | .data _ _ => s
    | .reqack _ _ _ => s
    | .result _ _ _ => s
    | .notready => s
  | .safe => s

/-- The chooser goes on after an outcome: the next station, slot or address, or the next phase. -/
def State.proceed (x : Exchange) (s : State) : State :=
  match x.chooser with
  | .cyclic => s.runCyclic
  | .acyclic => s.runAcyclic
  | .probe => s.endPhase
  | .survey => s.surveyNext x.address
  | .safe => s

/-- The failure outcome of an exchange, and what its chooser does next; a HALT-policy loss cuts the
sweep (R70). -/
def State.failure (x : Exchange) (k : FailureKind) (s : State) : State :=
  match x.chooser with
  | .cyclic =>
    if s.haltsOn x then (s.cyclicFailure x k).policyHalt else (s.cyclicFailure x k).runCyclic
  | .probe => (s.probeFailure x).endPhase
  | .acyclic => (s.acyclicFailure x).runAcyclic
  | .survey => (s.onSurvey (·.note x.address (.error k))).surveyNext x.address
  | .safe => s

/-- An attempt judged good: report, outcome, and on, or to the boundary of a cut (R83, R85, R89). -/
def State.goodAttempt (x : Exchange) (g : GoodReply) (s : State) : State :=
  let handed := ((s.reportAttempt x none).dropExchange).success x g
  if handed.ending then handed.boundaryReached else handed.proceed x

/-- An attempt that failed: unreported when the exchange is being ended (R89), else reported, and
repeated or handed on as a failure (R83, R85). -/
def State.failedAttempt (x : Exchange) (k : FailureKind) (s : State) : State :=
  if s.ending then s.dropExchange.boundaryReached
  else
    let reported := s.reportAttempt x (some k)
    if x.made + 1 < x.limit then
      reported.onEngine fun e =>
        { e with exchange := some { x with made := x.made + 1, lastFailure := some k } }
    else reported.dropExchange.failure x k

/-- An attempt ends with a judgement at an instant: the line counters and the guard, then the
judgement's way on (R83, R84, R94). -/
def State.judged (x : Exchange) (r : Except FailureKind GoodReply) (endedAt : Nat) (s : State) :
    State :=
  match r with
  | .ok g => ((s.countLine (countResult none)).startGuard endedAt).goodAttempt x g
  | .error k => ((s.countLine (countResult (some k))).startGuard endedAt).failedAttempt x k

/-! ## Received characters and frames (R77, R78, R81, R82, R92) -/

/-- A foreign master frame: counted, and contention (R92). -/
def State.foreignFrame (s : State) : State :=
  (s.countLine fun c => { c with foreign := satInc c.foreign }).contention

/-- The awaited reply ends: a foreign master frame, or judged (R82, R92). -/
def State.replyEnd (x : Exchange) (chars : List FieldChar) (endedAt : Nat) (s : State) : State :=
  if isMasterFrame chars then s.foreignFrame
  else
    match judgeReply x ((s.entry? x.address).map (·.inWidth)) chars with
    | some g => s.judged x (.ok g) endedAt
    | none => s.judged x (.error .corrupt) endedAt

/-- The guard after an unawaited frame: 4 character times from its end, or the running guard if that
ends later (R92). -/
def State.guardAfter (endedAt : Nat) (s : State) : State :=
  s.onEngine fun e =>
    { e with
      state := .guard
      frame := none
      due := if e.state = .guard then max e.due (endedAt + 4 * s.charCycles)
             else endedAt + 4 * s.charCycles }

/-- An unawaited frame ends: a foreign master frame, or stray (R92). -/
def State.unawaitedEnd (chars : List FieldChar) (endedAt : Nat) (s : State) : State :=
  if isMasterFrame chars then s.foreignFrame
  else (s.countLine fun c => { c with stray := satInc c.stray }).guardAfter endedAt

/-- The frame being taken ends (R77): the awaited reply in RECEIVING, an unawaited frame otherwise. -/
def State.frameEnd (chars : List FieldChar) (endedAt : Nat) (s : State) : State :=
  match s.engine.state, s.engine.exchange with
  | .receiving, some x => s.replyEnd x chars endedAt
  | _, _ => s.unawaitedEnd chars endedAt

/-- The quiet interval of LISTENING: 20 ms, in clock cycles (R47, R48). -/
def quietCycles : Nat := 20 * Config.cyclesPerMillisecond

/-- Any character received in LISTENING restarts the quiet interval (R48). -/
def State.restartQuiet (s : State) : State :=
  if s.sweep.line = .listening then s.onSweep fun c => { c with quietDue := s.now + quietCycles }
  else s

/-- A character taken into a frame: the frame ends with it, or its gap limit runs (R77, R78). -/
def State.takeChar (chars : List FieldChar) (s : State) : State :=
  if endsFrame chars then s.frameEnd chars s.now
  else
    s.onEngine fun e =>
      { e with frame := some { chars := chars, gapDue := s.now + 2 * s.charCycles } }

/-- A well-formed 0x96, the delimiter (R77). -/
def isDelimiter (c : FieldChar) : Bool := c.ok && c.value == 0x96#8

/-- A delimiter begins a frame; in WINDOW it starts the awaited reply, as begun in time (R77, R81,
log 20). -/
def State.beginFrame (c : FieldChar) (s : State) : State :=
  s.onEngine fun e =>
    { e with
      state := if e.state = .window then .receiving else e.state
      frame := some { chars := [c], gapDue := s.now + 2 * s.charCycles } }

/-! ## Transmissions and their echo (R81, R91, R93) -/

/-- The frame of an attempt has gone out: counted, LDE released with the last echo, where R75 releases it at
the last stop bit (log 38, DESIGN CHOICE), and the window runs from the last stop bit (R81). -/
def State.openWindow (a : Attempt) (s : State) : State :=
  s.onEngine fun e =>
    { e with
      state := .window
      lde := false
      due := e.due + a.window * Config.cyclesPerMicrosecond
      counters := { e.counters with sent := satInc e.counters.sent } }

/-- The SAFE broadcast is complete, LDE released with its last echo (R52, R66, R70, R91; log 38, DESIGN
CHOICE). -/
def State.safeDone (s : State) : State :=
  let sent := (s.countLine fun c => { c with sent := satInc c.sent }).abandon
  let left := if s.sweep.line = .sweeping then sent.applyPending else sent
  match s.sweep.closing with
  | some c =>
    if c.byHalt then
      if c.target = .off then left.enterPolicyHalt.enterOff else left.enterPolicyHalt
    else left.enterOff
  | none => left.enterOff

/-- A collision is found: counted, and contention (R93). -/
def State.collision (s : State) : State :=
  (s.countLine fun c => { c with collisions := satInc c.collisions }).contention

/-- The stop bit of the sent character whose echo comes next (R93). -/
def State.echoStop (x : Exchange) (a : Attempt) (s : State) : Nat :=
  s.engine.due - (x.bytes.length - (a.echoed + 1)) * a.charTime

/-- A character received while sending is the echo of the next character sent: it must match it, be well
formed and come within one character time of its stop bit; the last one completes the transmission
(R81, R91, R93, log 21). -/
def State.echo (x : Exchange) (a : Attempt) (c : FieldChar) (s : State) : State :=
  let stop := s.echoStop x a
  let heard := s.at stop
  if c.ok && x.bytes[a.echoed]? == some c.value && decide (s.now ≤ stop + a.charTime) then
    if a.echoed + 1 < x.bytes.length then
      heard.onEngine fun e => { e with attempt := some { a with echoed := a.echoed + 1 } }
    else if x.chooser = .safe then heard.safeDone
    else heard.openWindow a
  else heard.collision

/-- A character received outside the echo (R46, R48, R77, R81). -/
def State.heardChar (c : FieldChar) (s : State) : State :=
  if s.sweep.line.hears then
    let quiet := s.restartQuiet
    match s.engine.frame with
    | some f => quiet.takeChar (f.chars ++ [c])
    | none => if isDelimiter c then quiet.beginFrame c else quiet
  else s

/-- A character received on the line: the echo in SENDING, in any line state (R92, R93). -/
def State.fieldChar (c : FieldChar) (s : State) : State :=
  if s.engine.state = .sending then
    match s.engine.exchange, s.engine.attempt with
    | some x, some a => s.echo x a c
    | _, _ => s
  else s.heardChar c

end Sys2Proof.Machine
end

