-- ==== Sys2Proof/Machine/Roster.lean ====
section
/-! DEFINITION. The roster requests: staging, reading a roster and COMMIT (chapter 1). -/

namespace Sys2Proof.Machine

/-! ## Staging (R7 to R11) -/

/-- The fallback an entry's mode and pattern name, where they agree with the output width (R3, R7). -/
def entryFallback (e : EntryArg) : Option Fallback :=
  match e.mode with
  | 0 => if e.pattern.isEmpty then some .zero else none
  | 1 => if e.pattern.isEmpty then some .hold else none
  | 2 => if e.pattern.length = e.outWidth then some (.pattern e.pattern) else none
  | _ => none

/-- The entry's numbers are in the ranges of R3, and its unused flag bits are zero (R7, R193). -/
def entryInRange (e : EntryArg) : Bool :=
  validAddress e.address && decide (e.classCode ≤ 65535) && decide (e.inWidth ≤ 16) &&
  decide (e.outWidth ≤ 16) && [1, 2, 4, 8].contains e.divisor && decide (e.missLimit ≤ 15) &&
  e.spare == 0 && (e.label.all fun l => decide (l.length ≤ 8))

/-- The entry STAGE_PUT stores, or none where a field is refused (R7). -/
def checkEntry (e : EntryArg) : Option RosterEntry :=
  if entryInRange e then
    (entryFallback e).map fun f =>
      { address := e.address, classCode := e.classCode, inWidth := e.inWidth,
        outWidth := e.outWidth, divisor := e.divisor,
        missLimit := if e.missLimit = 0 then 3 else e.missLimit, fallback := f,
        startDisabled := e.startDisabled, label := e.label }
  else none

/-- Puts an entry in its place in address order, replacing the one with its address (R1, R7). -/
def insertEntry (e : RosterEntry) : List RosterEntry → List RosterEntry
  | [] => [e]
  | f :: l =>
    if e.address < f.address then e :: f :: l
    else if e.address = f.address then e :: l
    else f :: insertEntry e l

/-- Changes the staged roster. -/
def State.onStaged (f : Roster → Roster) (s : State) : State :=
  s.onRoster fun m => { m with staged := f m.staged }

/-- The number of staged entries, one byte. -/
def State.stagedCount (s : State) : List Byte := bytes1 s.roster.staged.entries.length

/-- STAGE_PUT (R7); which flag value says replaced is free (log 9). -/
def takeStagePut (arg : EntryArg) (s : State) : Answer :=
  match checkEntry arg with
  | none => s.refuse .badArg
  | some e =>
    let present := (s.roster.staged.entry? e.address).isSome
    if present || s.roster.staged.entries.length < Config.maxStations then
      let put := s.onStaged fun r => { r with entries := insertEntry e r.entries }
      put.ok (flagByte (present == Config.replacedFlagIsOne) ++ put.stagedCount)
    else s.refuse .full

/-- STAGE_REMOVE (R8). -/
def takeStageRemove (a : Nat) (s : State) : Answer :=
  if validAddress a then
    if (s.roster.staged.entry? a).isSome then
      let removed := s.onStaged fun r => { r with entries := r.entries.filter (·.address != a) }
      removed.ok removed.stagedCount
    else s.refuse .notFound
  else s.refuse .badArg

/-- STAGE_CLEAR (R10). -/
def takeStageClear (s : State) : Answer := (s.onStaged fun _ => .empty).ok []

/-- A field of STAGE_HEADER: kept where its mask bit is clear, none where it is given and refused. -/
def headerField {α : Type} (given : Bool) (old : α) (new : Option α) : Option α :=
  if given then new else some old

/-- A number in a range, or none. -/
def inBounds (lo hi n : Nat) : Option Nat := if lo ≤ n && n ≤ hi then some n else none

/-- A reply window: 50..2000 in steps of 10 (R2). -/
def windowOf (n : Nat) : Option Nat := if n % 10 = 0 then inBounds 50 2000 n else none

/-- The header after STAGE_HEADER, or none where it is refused whole (R9). -/
def checkHeader (a : HeaderArg) (h : Header) : Option Header :=
  if a.mask.toNat < 32 then do
    let speed ← headerField (a.mask.getLsbD 0) h.speed (LineSpeed.ofCode a.speed)
    let window ← headerField (a.mask.getLsbD 1) h.window (windowOf a.window)
    let repeats ← headerField (a.mask.getLsbD 2) h.repeats (inBounds 0 3 a.repeats)
    let budget ← headerField (a.mask.getLsbD 3) h.budget (inBounds 0 8 a.budget)
    let policy ← headerField (a.mask.getLsbD 4) h.policy (RejoinPolicy.ofCode a.policy)
    some { speed := speed, window := window, repeats := repeats, budget := budget, policy := policy }
  else none

/-- STAGE_HEADER (R9). -/
def takeStageHeader (arg : HeaderArg) (s : State) : Answer :=
  match checkHeader arg s.roster.staged.header with
  | none => s.refuse .badArg
  | some h => (s.onStaged fun r => { r with header := h }).ok h.bytes

/-- STAGE_REVERT (R11). -/
def takeStageRevert (s : State) : Answer := (s.onStaged fun _ => s.roster.committed).ok []

/-! ## Reading a roster (R12, R13) -/

/-- What a roster source names. -/
inductive Source where
  | known (r : Option Roster)
  | unknown
  deriving DecidableEq, Repr

/-- The roster a source code names; PENDING may name none (section 12.1). -/
def State.source (code : Nat) (s : State) : Source :=
  match code with
  | 0 => .known (some s.roster.staged)
  | 1 => .known (some s.roster.committed)
  | 2 => .known s.roster.pendingCopy
  | _ => .unknown

/-- What both forms return first: source, generation and header (R12, R13). -/
def State.rosterFields (src : Nat) (r : Roster) (s : State) : List Byte :=
  bytes1 src ++ wordBytes s.roster.generation ++ r.header.bytes

/-- READ_ROSTER, single form (R12). -/
def takeReadRosterSingle (src a : Nat) (s : State) : Answer :=
  if validAddress a then
    match s.source src with
    | .unknown => s.refuse .badArg
    | .known none => s.refuse .empty
    | .known (some r) =>
      match r.entry? a with
      | none => s.refuse .notFound
      | some e => s.ok (s.rosterFields src r ++ e.bytes)
  else s.refuse .badArg

/-- The room that fixed fields leave for a run form's list, beside the status byte, the list's count
and the continuation address (R178, R192). -/
def listRoom (fixed : Nat) : Nat := Config.payloadLimit - 3 - fixed

/-- The room that fixed fields leave for a list form's list, beside the status byte and the list's count;
it has no continuation address (R178, R192). -/
def listFormRoom (fixed : Nat) : Nat := Config.payloadLimit - 2 - fixed

/-- READ_ROSTER, run form (R13); its fields in the order R13 lists them (log 13). -/
def takeReadRosterRun (src start : Nat) (s : State) : Answer :=
  if validAddress start then
    match s.source src with
    | .unknown => s.refuse .badArg
    | .known none => s.refuse .empty
    | .known (some r) =>
      let head := s.rosterFields src r ++ bytes1 r.entries.length
      let run := runForm (listRoom head.length)
        ((r.entries.filter (start ≤ ·.address)).map fun e => (e.address, e.bytes))
      s.ok (head ++ run.1 ++ bytes1 run.2)
  else s.refuse .badArg

/-! ## COMMIT (R14 to R16) -/

/-- The input-width sum of a roster (R4). -/
def Roster.inSum (r : Roster) : Nat := (r.entries.map (·.inWidth)).sum

/-- The output-width sum of a roster (R4). -/
def Roster.outSum (r : Roster) : Nat := (r.entries.map (·.outWidth)).sum

/-- What every COMMIT reply reports (R14). -/
def State.commitFields (s : State) : List Byte :=
  bytes2 s.roster.staged.inSum ++ bytes2 s.roster.staged.outSum ++ s.stagedCount ++
  wordBytes s.roster.generation

/-- The staged roster's width sums fit the images (R4, R15). -/
def Roster.fits (r : Roster) : Bool :=
  decide (r.inSum ≤ Config.imageBytes) && decide (r.outSum ≤ Config.imageBytes)

/-- COMMIT (R15, R16). -/
def takeCommit (s : State) : Answer :=
  if s.roster.staged.fits then
    if s.sweep.line = .sweeping then
      (s.onRoster fun m => { m with pendingCopy := some m.staged },
        .of .pending (s.commitFields ++ flagByte s.roster.pendingCopy.isSome))
    else
      let applied := s.applyRoster s.roster.staged
      applied.ok applied.commitFields
  else (s, .of .invalidRoster s.commitFields)

/-! ## The commands -/

/-- STAGE_PUT. -/
def execStagePut (tag : Byte) (arg : EntryArg) (s : State) : Result :=
  .next (s.request tag 0x10#8 (takeStagePut arg))

/-- STAGE_REMOVE. -/
def execStageRemove (tag : Byte) (a : Nat) (s : State) : Result :=
  .next (s.request tag 0x11#8 (takeStageRemove a))

/-- STAGE_CLEAR. -/
def execStageClear (tag : Byte) (s : State) : Result := .next (s.request tag 0x12#8 takeStageClear)

/-- STAGE_HEADER. -/
def execStageHeader (tag : Byte) (arg : HeaderArg) (s : State) : Result :=
  .next (s.request tag 0x13#8 (takeStageHeader arg))

/-- STAGE_REVERT. -/
def execStageRevert (tag : Byte) (s : State) : Result := .next (s.request tag 0x14#8 takeStageRevert)

/-- READ_ROSTER, single form. -/
def execReadRosterSingle (tag : Byte) (src a : Nat) (s : State) : Result :=
  .next (s.request tag 0x15#8 (takeReadRosterSingle src a))

/-- READ_ROSTER, run form. -/
def execReadRosterRun (tag : Byte) (src start : Nat) (s : State) : Result :=
  .next (s.request tag 0x15#8 (takeReadRosterRun src start))

/-- COMMIT. -/
def execCommit (tag : Byte) (s : State) : Result := .next (s.request tag 0x16#8 takeCommit)

end Sys2Proof.Machine
end

