-- ==== Sys2Proof/Machine/Lines.lean ====
section
/-! DEFINITION. The line, sweep and survey requests (chapters 3 and 8). -/

namespace Sys2Proof.Machine

/-- LINE_START (R47, R52). -/
def takeLineStart (s : State) : Answer :=
  if s.sweep.line = .off && s.sweep.closing.isNone then
    ((s.onSweep fun c => { c with quietDue := s.now + quietCycles }).setLine .listening).ok []
  else s.refuse .wrongState

/-- What LINE_STOP does in a line state, no closing being in progress (R51, R66). -/
def State.beginStop (s : State) : State :=
  match s.sweep.line with
  | .off => s
  | .listening => s.enterOff
  | .halted .contention => s.enterOff
  | .halted .policy => (s.close stopClosing).handSafe
  | .ready => (s.close stopClosing).handSafe
  | .sweeping =>
    if s.sweep.phase = .wait then
      ((s.applyPending.close stopClosing).onSweep fun c => { c with phase := .idle }).handSafe
    else ((s.close stopClosing).onSweep fun c => { c with cut := true }).takeCut
  | .surveying => (s.close stopClosing).takeCut

/-- LINE_STOP (R51, R52): a closing in progress is retargeted to OFF. -/
def takeLineStop (s : State) : Answer :=
  if s.sweep.line = .off then s.refuse .wrongState
  else
    let fields := bytes1 s.sweep.line.code ++ bytes1 s.sweep.phase.code
    match s.sweep.closing with
    | some c => (s.close { c with target := .off }).ok fields
    | none => s.beginStop.ok fields

/-- The plan START_SWEEP carries, or none where R55's first check refuses it; FREE's value is not
examined. -/
def planOf (mode value : Nat) : Option Plan :=
  match mode with
  | 0 => (inBounds 1 65535 value).map Plan.counted
  | 1 => some .free
  | 2 => (inBounds 5 10000 value).map Plan.paced
  | _ => none

/-- Sweeps remaining when a plan is taken (R55). -/
def Plan.remaining : Plan → Nat
  | .counted n => n
  | .free => 0
  | .paced _ => 0

/-- The pacing schedule of a plan that is taken; its base is set by its first sweep's start (R55, R67). -/
def Plan.pacing (now : Nat) : Plan → Option Pacing
  | .counted _ => none
  | .free => none
  | .paced _ => some { base := now, count := 0 }

/-- Takes a plan: the plan, sweeps remaining and pacing, stop requested cleared (R55, R56). -/
def State.takePlan (p : Plan) (s : State) : State :=
  s.onSweep fun c =>
    { c with plan := p, remaining := p.remaining, pacing := p.pacing s.now, stop := false }

/-- A plan is taken in READY or SWEEPING (R55, R56, R66). -/
def State.startPlan (p : Plan) (s : State) : State :=
  if s.sweep.line = .ready then ((s.takePlan p).setLine .sweeping).beginSweep
  else if s.sweep.phase = .wait then (s.takePlan p).applyPending.beginUnlessEmpty
  else ((s.takePlan p).onSweep fun c => { c with cut := true }).takeCut

/-- START_SWEEP is allowed in this line state (R55, R56). -/
def State.mayStartSweep (s : State) : Bool :=
  (s.sweep.line == .ready || s.sweep.line == .sweeping) && s.sweep.closing.isNone

/-- START_SWEEP (R55, R56). The reply to one taken in SWEEPING carries the plan as well as the number, as in
READY (log 37, DESIGN CHOICE). -/
def takeStartSweep (mode value : Nat) (s : State) : Answer :=
  match planOf mode value with
  | none => s.refuse .badArg
  | some p =>
    if s.mayStartSweep then
      if s.rosterEmpty then s.refuse .invalidRoster
      else (s.startPlan p).ok (p.bytes ++ wordBytes (s.sweep.number + 1#32))
    else s.refuse .wrongState

/-- STOP_SWEEP (R57, R66). -/
def takeStopSweep (s : State) : Answer :=
  if s.sweep.line = .sweeping && s.sweep.closing.isNone then
    let fields := wordBytes s.sweep.number
    if s.sweep.phase = .wait then s.applyPending.goReady.ok fields
    else (s.onSweep fun c => { c with stop := true }).ok fields
  else s.refuse .wrongState

/-- Sweeps remaining, present under COUNTED (R73, log 12). -/
def SweepController.remainingField (c : SweepController) : Option Nat :=
  match c.plan with
  | .counted _ => some c.remaining
  | .free => none
  | .paced _ => none

/-- The time left in phase WAIT, in microseconds (R73, log 11). -/
def State.waitLeft (s : State) : Option Nat :=
  if s.sweep.phase = .wait then s.sweep.waitDue.map (usLeft s.now) else none

/-- READ_SWEEP_STATUS (R73). -/
def takeReadSweepStatus (s : State) : Answer :=
  s.ok (bytes1 s.sweep.line.code ++ bytes1 s.sweep.line.causeCode ++
    bytes1 (closingCode s.sweep.closing) ++ s.sweep.plan.bytes ++ opt2 s.sweep.remainingField ++
    wordBytes s.sweep.number ++ bytes1 s.sweep.phase.code ++ flagByte s.sweep.stop ++
    flagByte s.roster.pendingCopy.isSome ++ bytes1 s.sweep.probe ++ opt4 s.waitLeft ++
    s.sweep.stats.bytes)

/-- START_SURVEY (R54, R152). -/
def takeStartSurvey (s : State) : Answer :=
  if s.sweep.line = .ready && s.sweep.closing.isNone then
    (((s.setLine .surveying).onSurvey fun _ => .start s.roster.generation).hand
      (identExchange .survey 1 1)).ok (wordBytes s.roster.generation)
  else s.refuse .wrongState

/-- Roster addresses surveyed but not found (R159). -/
def State.surveyAbsent (s : State) : List Nat :=
  (s.roster.committed.entries.map (·.address)).filter fun a =>
    decide (a ≤ s.survey.done) && !(s.survey.found.any (·.address == a))

/-- Addresses found that the roster does not hold (R159). -/
def State.surveyUnexpected (s : State) : List Nat :=
  (s.survey.found.map (·.address)).filter fun a => (s.entry? a).isNone

/-- Addresses found whose identity does not match their entry (R159). -/
def State.surveyDiffering (s : State) : List Nat :=
  (s.survey.found.filter fun f =>
    (s.entry? f.address).elim false fun e => !e.accepts f.identity).map (·.address)

/-- The comparison lists and the incomplete-comparison flag (R159). -/
def State.surveyComparison (s : State) : List Byte :=
  listBytes (s.surveyAbsent.map bytes1) ++ listBytes (s.surveyUnexpected.map bytes1) ++
  listBytes (s.surveyDiffering.map bytes1) ++
  flagByte (s.survey.overflow || decide (s.survey.done < 119))

/-- READ_SURVEY (R158, R159): compare is 0 or 1 (section 12.1). The comparison lists and the
incomplete-comparison flag stand last, after the continuation address (log 34, DESIGN CHOICE). -/
def takeReadSurvey (start compare : Nat) (s : State) : Answer :=
  if validAddress start && decide (compare ≤ 1) then
    let head := bytes1 s.survey.status.code ++ optByte s.survey.current ++
      bytes1 s.survey.done ++ bytes1 s.survey.foundTotal ++ bytes1 s.survey.noisy ++
      flagByte s.survey.overflow ++ opt4 (s.survey.startGeneration.map BitVec.toNat) ++
      wordBytes s.roster.generation ++ bytes1 s.survey.found.length
    let tail := if compare = 1 then s.surveyComparison else []
    let run := runForm (listRoom (head.length + tail.length))
      ((s.survey.found.filter (start ≤ ·.address)).map fun f => (f.address, f.bytes))
    s.ok (head ++ run.1 ++ bytes1 run.2 ++ tail)
  else s.refuse .badArg

/-! ## The commands -/

/-- LINE_START. -/
def execLineStart (tag : Byte) (s : State) : Result := .next (s.request tag 0x20#8 takeLineStart)

/-- LINE_STOP. -/
def execLineStop (tag : Byte) (s : State) : Result := .next (s.request tag 0x21#8 takeLineStop)

/-- START_SWEEP. -/
def execStartSweep (tag : Byte) (mode value : Nat) (s : State) : Result :=
  .next (s.request tag 0x22#8 (takeStartSweep mode value))

/-- STOP_SWEEP. -/
def execStopSweep (tag : Byte) (s : State) : Result := .next (s.request tag 0x23#8 takeStopSweep)

/-- READ_SWEEP_STATUS. -/
def execReadSweepStatus (tag : Byte) (s : State) : Result :=
  .next (s.request tag 0x24#8 takeReadSweepStatus)

/-- START_SURVEY. -/
def execStartSurvey (tag : Byte) (s : State) : Result := .next (s.request tag 0x25#8 takeStartSurvey)

/-- READ_SURVEY. -/
def execReadSurvey (tag : Byte) (start compare : Nat) (s : State) : Result :=
  .next (s.request tag 0x26#8 (takeReadSurvey start compare))

end Sys2Proof.Machine
end

