-- ==== Sys2Proof/Machine/Stations.lean ====
section
/-! DEFINITION. The requests on one station (section 2.9). -/

namespace Sys2Proof.Machine

/-- The checks every station request begins with: the address, then its record (section 2.9). -/
def State.withStation (a : Nat) (owner : Station → State → Answer) (s : State) : Answer :=
  if validAddress a then
    match s.station? a with
    | none => s.refuse .noStation
    | some t => owner t s
  else s.refuse .badArg

/-- The reply of a request taken: the state before and after (section 2.9). -/
def stateFields (before after : StationState) : List Byte := bytes1 before.code ++ bytes1 after.code

/-- A record after DISABLE_STATION, steps 1 and 2 (R39). -/
def Station.disable (t : Station) : Station :=
  { t with state := .disabled, miss := 0, flags := { t.flags with alarm := false } }

/-- DISABLE_STATION on a station that is not DISABLED: record, departure, marks, notice (R39). -/
def State.disable (t : Station) (s : State) : State :=
  (((s.onStation t.address (·.disable)).departFrom t.state t.address).markStation t.address).announce
    t.address (some t.state)

/-- DISABLE_STATION (R39). -/
def takeDisableStation (a : Nat) (s : State) : Answer :=
  s.withStation a fun t s =>
    if t.state = .disabled then s.ok (stateFields .disabled .disabled)
    else (s.disable t).ok (stateFields t.state .disabled)

/-- ENABLE_STATION (R40). -/
def takeEnableStation (a : Nat) (s : State) : Answer :=
  s.withStation a fun t s =>
    if t.state = .disabled then
      ((s.onStation t.address fun r => { r with state := .pending }).announce t.address
        (some .disabled)).ok (stateFields .disabled .pending)
    else s.refuse .wrongState

/-- READMIT (R41). -/
def takeReadmit (a : Nat) (s : State) : Answer :=
  s.withStation a fun t s =>
    match t.state with
    | .parked =>
      (((s.onStation t.address fun r => { r with state := .lost }).markInactive t.address
        .noAnswer).announce t.address (some .parked)).ok (stateFields .parked .lost)
    | .mismatched =>
      (((s.onStation t.address fun r => { r with state := .pending, miss := 0 }).markInactive
        t.address .mismatch).announce t.address (some .mismatched)).ok
        (stateFields .mismatched .pending)
    | .pending => s.refuse .wrongState
    | .online => s.refuse .wrongState
    | .faltering => s.refuse .wrongState
    | .lost => s.refuse .wrongState
    | .disabled => s.refuse .wrongState

/-- The identity part of READ_STATION: presence and match, and the identity, zeros when absent
(section 12.2). -/
def identityFields (matched : Identity → Bool) : Option Identity → List Byte
  | none => bytes1 0 ++ bytes2 0 ++ bytes1 0 ++ bytes1 0 ++ bytes1 0
  | some i =>
    bytes1 (if matched i then 1 else 2) ++ bytes2 i.classCode ++ bytes1 i.inWidth ++
    bytes1 i.outWidth ++ bytes1 i.revision

/-- Whether the station is due in the current sweep, absent unless the line is SWEEPING (R42). -/
def State.dueField (a : Nat) (s : State) : Option Nat :=
  if s.sweep.line = .sweeping then
    (s.entry? a).map fun e => (e.isDue s.sweep.number).toNat
  else none

/-- The 40 result bytes of READ_STATION (R42, section 12.2). -/
def State.stationFields (t : Station) (s : State) : List Byte :=
  let mine := s.requests.records.filter (·.address == t.address)
  bytes1 t.address ++ bytes1 t.state.code ++ bytes1 t.miss ++
  bytes1 ((s.entry? t.address).elim 0 (·.missLimit)) ++ flagByte t.toggle ++
  bytes1 t.flags.toNat ++
  identityFields (fun i => (s.entry? t.address).elim false (·.accepts i)) t.identity ++
  wordBytes t.attempts ++ wordBytes t.timeouts ++ wordBytes t.corrupt ++ wordBytes t.failed ++
  wordBytes t.joins ++ wordBytes t.probeFailures ++
  flagByte (s.requests.marks.contains t.address) ++ bytes1 (mine.filter (·.isQueued)).length ++
  bytes1 (mine.filter (·.isAwaiting)).length ++ optByte (s.dueField t.address)

/-- READ_STATION (R42). -/
def takeReadStation (a : Nat) (s : State) : Answer :=
  s.withStation a fun t s => s.ok (s.stationFields t)

/-! ## The commands -/

/-- DISABLE_STATION. -/
def execDisableStation (tag : Byte) (a : Nat) (s : State) : Result :=
  .next (s.request tag 0x30#8 (takeDisableStation a))

/-- ENABLE_STATION. -/
def execEnableStation (tag : Byte) (a : Nat) (s : State) : Result :=
  .next (s.request tag 0x31#8 (takeEnableStation a))

/-- READMIT. -/
def execReadmit (tag : Byte) (a : Nat) (s : State) : Result :=
  .next (s.request tag 0x32#8 (takeReadmit a))

/-- READ_STATION. -/
def execReadStation (tag : Byte) (a : Nat) (s : State) : Result :=
  .next (s.request tag 0x33#8 (takeReadStation a))

end Sys2Proof.Machine
end

