-- ==== Sys2Proof/Machine/Images.lean ====
section
/-! DEFINITION. The process image requests and the output lease (chapter 5). -/

namespace Sys2Proof.Machine

/-! ## Reading inputs (R105, R106) -/

/-- A list form's addresses pass its first check: the count, the ranges, and none twice (R102, R105). -/
def listChecks (most : Nat) (l : List Nat) : Bool :=
  decide (1 ≤ l.length) && decide (l.length ≤ most) && l.all validAddress && distinct l

/-- One station of a READ_INPUTS reply (R105). -/
def Image.inputBytes (i : Image) : List Byte :=
  bytes1 i.address ++ bytes1 i.validity.code ++ opt4 (i.lastFresh.map BitVec.toNat) ++
  optRun i.published

/-- The snapshot header: sweep number and flag; which flag value says CUT is free (R105, log 10). -/
def State.snapshotBytes (s : State) : List Byte :=
  wordBytes s.image.snapshotSweep ++ flagByte (s.image.snapshotCut == Config.cutFlagIsOne)

/-- The images of a list of addresses, in its order, or none where one has no image. -/
def State.imagesOf (l : List Nat) (s : State) : Option (List Image) := l.mapM s.image?

/-- READ_INPUTS, list form (R105). -/
def takeReadInputsList (l : List Nat) (s : State) : Answer :=
  if listChecks 8 l then
    match s.imagesOf l with
    | none => s.refuse .noStation
    | some images =>
      s.ok (s.snapshotBytes ++ wordBytes s.roster.generation ++
        listBytes (images.map Image.inputBytes))
  else s.refuse .badArg

/-- READ_INPUTS, run form (R106); its fields in the order R106 names them (log 13). -/
def takeReadInputsRun (start : Nat) (s : State) : Answer :=
  if validAddress start then
    let rest := s.snapshotBytes ++ wordBytes s.roster.generation ++
      bytes1 s.image.images.length
    let run := runForm (listRoom rest.length)
      ((s.image.images.filter (start ≤ ·.address)).map fun i => (i.address, i.inputBytes))
    s.ok (run.1 ++ rest ++ bytes1 run.2)
  else s.refuse .badArg

/-! ## Reading outputs (R102) -/

/-- One station of a READ_OUTPUTS reply (R102). -/
def Image.outputBytes (i : Image) : List Byte :=
  bytes1 i.address ++ runBytes i.staged ++ bytes1 i.origin.code ++ runBytes i.latched ++
  opt4 (i.latchedIn.map BitVec.toNat)

/-- The lease period, absent in OFF (R107). -/
def Lease.period? : Lease → Option Nat
  | .off => none
  | .active p _ => some p
  | .expired p => some p

/-- The time remaining in ms, present in ACTIVE, where it is 1..period; at the very instant an ACTIVE
lease runs out it reads 1 (R107, log 11). -/
def Lease.remaining? (now : Nat) : Lease → Option Nat
  | .off => none
  | .active _ due => some (max 1 (msLeft now due))
  | .expired _ => none

/-- Lease state, period and time remaining (R102, R108). -/
def State.leaseBytes (s : State) : List Byte :=
  bytes1 s.image.lease.code ++ opt2 s.image.lease.period? ++
  opt2 (s.image.lease.remaining? s.now)

/-- The stations of a READ_OUTPUTS list form reply: as many whole ones, in the order named, as its 250
bytes hold (R178, log 14). -/
def State.outputsFitting (images : List Image) (s : State) : List (List Byte) :=
  fitPrefix (listFormRoom s.leaseBytes.length) (images.map Image.outputBytes)

/-- READ_OUTPUTS, list form (R102, R178). -/
def takeReadOutputsList (l : List Nat) (s : State) : Answer :=
  if listChecks 6 l then
    match s.imagesOf l with
    | none => s.refuse .noStation
    | some images => s.ok (listBytes (s.outputsFitting images) ++ s.leaseBytes)
  else s.refuse .badArg

/-- READ_OUTPUTS, run form (R102). -/
def takeReadOutputsRun (start : Nat) (s : State) : Answer :=
  if validAddress start then
    let run := runForm (listRoom s.leaseBytes.length)
      ((s.image.images.filter (start ≤ ·.address)).map fun i => (i.address, i.outputBytes))
    s.ok (run.1 ++ bytes1 run.2 ++ s.leaseBytes)
  else s.refuse .badArg

/-! ## The lease (R107 to R113) -/

/-- An ACTIVE lease whose timer starts at its full period. -/
def Lease.start (now period : Nat) : Lease :=
  .active period (now + period * Config.cyclesPerMillisecond)

/-- Sets the lease. -/
def State.setLease (l : Lease) (s : State) : State := s.onImage fun m => { m with lease := l }

/-- The LEASE_EXPIRED entry is marked inactive (R113). -/
def State.leaseRestored (s : State) : State := s.markInactive 0 .leaseExpired

/-- What a WRITE_OUTPUTS that is taken does to the lease (R101, R111). -/
def State.renewByWrite (s : State) : State :=
  match s.image.lease with
  | .off => s
  | .active p _ => s.setLease (.start s.now p)
  | .expired p => (s.setLease (.start s.now p)).leaseRestored

/-- A lease period: 0, or 10..10000 ms in steps of 10 (R108). -/
def leasePeriodOk (p : Nat) : Bool :=
  p == 0 || (decide (10 ≤ p) && decide (p ≤ 10000) && p % 10 == 0)

/-- SET_LEASE on a period that passes (R108). -/
def State.takeLease (p : Nat) (s : State) : State :=
  match s.image.lease with
  | .off => if p = 0 then s else s.setLease (.start s.now p)
  | .active _ _ => if p = 0 then s.setLease .off else s.setLease (.start s.now p)
  | .expired _ => if p = 0 then (s.setLease .off).leaseRestored else s.setLease (.expired p)

/-- SET_LEASE (R108). -/
def takeSetLease (p : Nat) (s : State) : Answer :=
  if leasePeriodOk p then
    let set := s.takeLease p
    set.ok set.leaseBytes
  else s.refuse .badArg

/-- RENEW_LEASE (R109). -/
def takeRenewLease (s : State) : Answer :=
  match s.image.lease with
  | .active p _ => (s.setLease (.start s.now p)).ok (bytes2 p)
  | .off => s.refuse .wrongState
  | .expired _ => s.refuse .wrongState

/-- The value a lease expiry writes into staged outputs (R98). -/
def RosterEntry.expiryValue (e : RosterEntry) (i : Image) : List Byte :=
  match e.fallback with
  | .zero => List.replicate e.outWidth 0#8
  | .hold => i.latched
  | .pattern p => p

/-- An image after a lease expiry; one of output width 0 is passed over (R110). -/
def Roster.expire (r : Roster) (i : Image) : Image :=
  match r.entry? i.address with
  | none => i
  | some e =>
    if e.outWidth = 0 then i else { i with staged := e.expiryValue i, origin := .fallback }

/-- The lease expires: state, staged outputs, fault (R110). -/
def State.expireLease (p : Nat) (s : State) : State :=
  ((s.setLease (.expired p)).onImage fun m =>
    { m with images := m.images.map s.roster.committed.expire }).raiseLineFault .leaseExpired true

/-! ## Writing outputs (R100, R101) -/

/-- The items pass the first check of R100. -/
def itemsOk (items : List OutputItem) : Bool :=
  !items.isEmpty && items.all (fun i => validAddress i.address) && distinct (items.map (·.address))

/-- Every item's byte count is the output width of its station's committed entry (R100). -/
def State.itemsFit (items : List OutputItem) (s : State) : Bool :=
  items.all fun i => (s.entry? i.address).elim false fun e => i.bytes.length == e.outWidth

/-- One item written into its station's staged outputs (R101). -/
def State.stageItem (s : State) (i : OutputItem) : State :=
  s.onImageOf i.address fun m => { m with staged := i.bytes, origin := .write }

/-- WRITE_OUTPUTS (R100, R101, R111). -/
def takeWriteOutputs (items : List OutputItem) (s : State) : Answer :=
  if itemsOk items then
    if items.all fun i => (s.image? i.address).isSome then
      if s.itemsFit items then
        let written := (items.foldl State.stageItem s).renewByWrite
        written.ok (bytes1 items.length ++ bytes1 written.image.lease.code ++
          opt2 (written.image.lease.remaining? written.now))
      else s.refuse .badArg
    else s.refuse .noStation
  else s.refuse .badArg

/-! ## The commands -/

/-- READ_INPUTS, list form. -/
def execReadInputsList (tag : Byte) (l : List Nat) (s : State) : Result :=
  .next (s.request tag 0x40#8 (takeReadInputsList l))

/-- READ_INPUTS, run form. -/
def execReadInputsRun (tag : Byte) (start : Nat) (s : State) : Result :=
  .next (s.request tag 0x40#8 (takeReadInputsRun start))

/-- WRITE_OUTPUTS. -/
def execWriteOutputs (tag : Byte) (items : List OutputItem) (s : State) : Result :=
  .next (s.request tag 0x41#8 (takeWriteOutputs items))

/-- READ_OUTPUTS, list form. -/
def execReadOutputsList (tag : Byte) (l : List Nat) (s : State) : Result :=
  .next (s.request tag 0x42#8 (takeReadOutputsList l))

/-- READ_OUTPUTS, run form. -/
def execReadOutputsRun (tag : Byte) (start : Nat) (s : State) : Result :=
  .next (s.request tag 0x42#8 (takeReadOutputsRun start))

/-- SET_LEASE. -/
def execSetLease (tag : Byte) (p : Nat) (s : State) : Result :=
  .next (s.request tag 0x43#8 (takeSetLease p))

/-- RENEW_LEASE. -/
def execRenewLease (tag : Byte) (s : State) : Result := .next (s.request tag 0x44#8 takeRenewLease)

/-- LEASE_EXPIRY: the time of an ACTIVE lease runs out (R110); no other lease has one (log 3). -/
def execLeaseExpiry (s : State) : Result :=
  match s.image.lease with
  | .active p due => .next (((s.at due).expireLease p).pump)
  | .off => .next s
  | .expired _ => .next s

end Sys2Proof.Machine
end

