-- ==== Sys2Proof/Machine/Requests.lean ====
section
/-! DEFINITION. The transaction requests and the deadlines (chapter 6). -/

namespace Sys2Proof.Machine

/-! ## Submitting (R117, R118) -/

/-- The ids in the order they are offered from next id on, each once, wrapping from 255 to 1 (R118). -/
def idsFrom (next : Nat) : List Nat := (List.range 255).map fun k => (next - 1 + k) % 255 + 1

/-- The id that follows another, 255 followed by 1 (R118). -/
def idAfter (id : Nat) : Nat := id % 255 + 1

/-- The id a new record is given (R118); one is always free, since at most 24 are held. -/
def RequestQueue.freeId (q : RequestQueue) : Nat :=
  ((idsFrom q.nextId).find? fun id => !(q.records.any (·.id == id))).getD q.nextId

/-- SUBMIT's first check (R117). -/
def submitOk (a : SubmitArg) : Bool :=
  validAddress a.address && decide (a.data.length ≤ 64) && decide (10 ≤ a.deadline) &&
  decide (a.deadline ≤ 60000) && decide (a.service ≤ 255)

/-- The record a SUBMIT appends (R114, R117). -/
def SubmitArg.txn (a : SubmitArg) (id now : Nat) : Txn :=
  { id := id, address := a.address, service := a.service, data := a.data, deadline := a.deadline,
    due := now + a.deadline * Config.cyclesPerMillisecond, state := .queued, attempts := 0#8 }

/-- A SUBMIT that passes its checks appends a record and moves next id on (R117, R118). -/
def State.accept (a : SubmitArg) (s : State) : State :=
  s.onRequests fun q =>
    { q with records := q.records ++ [SubmitArg.txn a q.freeId s.now], nextId := idAfter q.freeId }

/-- SUBMIT (R117). -/
def takeSubmit (a : SubmitArg) (s : State) : Answer :=
  if submitOk a then
    if (s.entry? a.address).isSome then
      if s.requests.records.length < Config.maxRecords then
        let accepted := s.accept a
        accepted.ok (bytes1 s.requests.freeId ++ bytes1 accepted.requests.records.length ++
          bytes1 accepted.requests.awaiting)
      else s.refuse .full
    else s.refuse .noStation
  else s.refuse .badArg

/-! ## Reading, collecting and cancelling (R119 to R123) -/

/-- The checks of a request that names one transaction: id 0, then an id no record holds (section 6.3). -/
def State.withTxn (id : Nat) (owner : Txn → State → Answer) (s : State) : Answer :=
  if id = 0 then s.refuse .badArg
  else
    match s.txn? id with
    | none => s.refuse .notFound
    | some t => owner t s

/-- What a DONE record holds beside its request, absent otherwise (R114). -/
def TxnState.ending? : TxnState → Option Ending
  | .queued => none
  | .awaiting => none
  | .done e => some e

/-- The time remaining in ms, while QUEUED or AWAITING (R114). -/
def Txn.remaining? (now : Nat) (t : Txn) : Option Nat :=
  if t.live then some (msLeft now t.due) else none

/-- Every field of a record, in the order of R114 (R192); the attempts in one byte (log 36, DEDUCED). -/
def Txn.bytes (now : Nat) (t : Txn) : List Byte :=
  let e := t.state.ending?
  bytes1 t.id ++ bytes1 t.address ++ bytes1 t.service ++ runBytes t.data ++ bytes2 t.deadline ++
  opt2 (t.remaining? now) ++ bytes1 t.state.code ++ [t.attempts] ++
  optByte (e.map (·.code.code)) ++ optNumber (e.bind (·.detail)) ++ optRun (e.bind (·.data)) ++
  opt4 (e.map (·.sweep.toNat))

/-- The station's result-waiting mark, absent where it has no entry (R119, R124). -/
def State.markField (a : Nat) (s : State) : Option Nat :=
  (s.entry? a).map fun _ => (s.requests.marks.contains a).toNat

/-- QUERY_REQUEST (R119). -/
def takeQueryRequest (id : Nat) (s : State) : Answer :=
  s.withTxn id fun t s => s.ok (t.bytes s.now ++ optByte (s.markField t.address))

/-- One record of LIST_REQUESTS (R120). -/
def Txn.brief (t : Txn) : List Byte :=
  bytes1 t.id ++ bytes1 t.state.code ++ bytes1 t.address ++
  optByte (t.state.ending?.map (·.code.code))

/-- LIST_REQUESTS (R120). -/
def takeListRequests (s : State) : Answer :=
  s.ok (listBytes (s.requests.records.map Txn.brief) ++ bytes1 s.requests.records.length ++
    bytes1 s.requests.awaiting ++ bytes1 s.requests.nextId ++ wordBytes s.requests.orphans)

/-- Removes a record; its place and id become free (R121, R122). -/
def State.dropTxn (id : Nat) (s : State) : State :=
  s.onRequests fun q => { q with records := q.records.filter (·.id != id) }

/-- FETCH_RESULT (R121; log 15). -/
def takeFetchResult (id : Nat) (s : State) : Answer :=
  s.withTxn id fun t s =>
    if t.live then s.refuse .wrongState else (s.dropTxn id).ok (t.bytes s.now)

/-- DISCARD_RESULT (R122). -/
def takeDiscardResult (id : Nat) (s : State) : Answer :=
  s.withTxn id fun t s =>
    if t.live then s.refuse .wrongState
    else
      let left := s.dropTxn id
      left.ok (bytes1 id ++ bytes1 left.requests.records.length)

/-- CANCEL (R123). -/
def takeCancel (id : Nat) (s : State) : Answer :=
  s.withTxn id fun t s =>
    if t.live then (s.endTxn t .cancelled none none).ok (bytes1 t.state.code)
    else s.refuse .wrongState

/-! ## The commands -/

/-- SUBMIT. -/
def execSubmit (tag : Byte) (a : SubmitArg) (s : State) : Result :=
  .next (s.request tag 0x50#8 (takeSubmit a))

/-- QUERY_REQUEST. -/
def execQueryRequest (tag : Byte) (id : Nat) (s : State) : Result :=
  .next (s.request tag 0x51#8 (takeQueryRequest id))

/-- LIST_REQUESTS. -/
def execListRequests (tag : Byte) (s : State) : Result :=
  .next (s.request tag 0x52#8 takeListRequests)

/-- FETCH_RESULT. -/
def execFetchResult (tag : Byte) (id : Nat) (s : State) : Result :=
  .next (s.request tag 0x53#8 (takeFetchResult id))

/-- DISCARD_RESULT. -/
def execDiscardResult (tag : Byte) (id : Nat) (s : State) : Result :=
  .next (s.request tag 0x54#8 (takeDiscardResult id))

/-- CANCEL. -/
def execCancel (tag : Byte) (id : Nat) (s : State) : Result :=
  .next (s.request tag 0x55#8 (takeCancel id))

/-- DEADLINE_EXPIRY: a live record's deadline runs out (R132); a DONE record has none (R133). -/
def execDeadlineExpiry (id : Nat) (s : State) : Result :=
  match (s.txn? id).filter (·.live) with
  | some t => .next (((s.at t.due).endTxn t .timedOut none none).pump)
  | none => .next s

end Sys2Proof.Machine
end

