-- ==== Sys2Proof/Machine/Faults.lean ====
section
/-! DEFINITION. The fault list requests (sections 7.5 and 7.6). -/

namespace Sys2Proof.Machine

/-- READ_FAULTS (R144, section 12.2). -/
def takeReadFaults (s : State) : Answer :=
  s.ok (bytes1 s.faults.entries.length ++ bytes1 (s.faults.entries.filter (·.active)).length ++
    halfBytes s.faults.overflow ++ flagByte s.faults.capture.isSome ++
    s.faults.entries.flatMap FaultEntry.bytes)

/-- The list without the entry of an address and code; FLT follows (R142, R145). -/
def FaultList.remove (a : Nat) (c : FaultCode) (l : FaultList) : FaultList :=
  FaultList.setFlt { l with entries := l.entries.filter fun e => !(e.isOf a c) }

/-- The list without its head; FLT follows (R142, R146). -/
def FaultList.behead (l : FaultList) : FaultList :=
  FaultList.setFlt { l with entries := l.entries.tail }

/-- The reply to an acknowledgement: the removed entry and the number left (R145, R146). -/
def State.acknowledged (e : FaultEntry) (s : State) : Answer :=
  s.ok (e.bytes ++ bytes1 s.faults.entries.length)

/-- ACK_FAULT (R145). -/
def takeAckFault (a code : Nat) (s : State) : Answer :=
  if a ≤ 119 then
    match FaultCode.ofCode code with
    | none => s.refuse .badArg
    | some c =>
      match s.faults.entries.find? (·.isOf a c) with
      | none => s.refuse .notFound
      | some e => (s.onFaults (·.remove a c)).acknowledged e
  else s.refuse .badArg

/-- ACK_OLDEST (R146). -/
def takeAckOldest (s : State) : Answer :=
  match s.faults.entries with
  | [] => s.refuse .empty
  | e :: _ => (s.onFaults (·.behead)).acknowledged e

/-- The list after CLEAR_FAULTS; the capture record is not touched (R147). -/
def FaultList.clear (l : FaultList) : FaultList :=
  { l with entries := [], overflow := 0#16, flt := false }

/-- CLEAR_FAULTS (R147). -/
def takeClearFaults (s : State) : Answer :=
  (s.onFaults (·.clear)).ok (bytes1 s.faults.entries.length ++ halfBytes s.faults.overflow)

/-- READ_CAPTURE (R150). -/
def takeReadCapture (s : State) : Answer :=
  match s.faults.capture with
  | none => s.refuse .empty
  | some c => s.ok c.bytes

/-- CLEAR_CAPTURE (R150). -/
def takeClearCapture (s : State) : Answer :=
  (s.onFaults fun l => { l with capture := none }).ok (flagByte s.faults.capture.isSome)

/-! ## The commands -/

/-- READ_FAULTS. -/
def execReadFaults (tag : Byte) (s : State) : Result := .next (s.request tag 0x60#8 takeReadFaults)

/-- ACK_FAULT. -/
def execAckFault (tag : Byte) (a code : Nat) (s : State) : Result :=
  .next (s.request tag 0x61#8 (takeAckFault a code))

/-- ACK_OLDEST. -/
def execAckOldest (tag : Byte) (s : State) : Result := .next (s.request tag 0x62#8 takeAckOldest)

/-- CLEAR_FAULTS. -/
def execClearFaults (tag : Byte) (s : State) : Result := .next (s.request tag 0x63#8 takeClearFaults)

/-- READ_CAPTURE. -/
def execReadCapture (tag : Byte) (s : State) : Result := .next (s.request tag 0x64#8 takeReadCapture)

/-- CLEAR_CAPTURE. -/
def execClearCapture (tag : Byte) (s : State) : Result :=
  .next (s.request tag 0x65#8 takeClearCapture)

end Sys2Proof.Machine
end

