-- ==== Sys2Proof/Machine/Notices.lean ====
section
/-! DEFINITION. The notice requests (sections 9.2, 9.5 and 9.6). -/

namespace Sys2Proof.Machine

/-- The Notice Queue's state as SET_NOTICE_CLASS returns it (R161); the credit in one byte, since R192's
table gives it no width (log 36, DEDUCED). -/
def State.noticeFields (s : State) : List Byte :=
  s.notices.classes.bytes ++ bytes1 s.notices.entries.length ++ bytes1 s.notices.credit ++
  halfBytes s.notices.dropped

/-- SET_NOTICE_CLASS with both a kind and a class (R161). -/
def State.setClass (kind cls : Nat) (s : State) : Answer :=
  match NoticeKind.ofCode kind with
  | none => s.refuse .badArg
  | some k =>
    if cls ≤ 3 then
      let set := s.onNotices fun q => { q with classes := q.classes.set k cls }
      set.ok set.noticeFields
    else s.refuse .badArg

/-- SET_NOTICE_CLASS (R161): both parts, neither, or one without its partner. -/
def takeSetNoticeClass (kind cls : Option Nat) (s : State) : Answer :=
  match kind, cls with
  | some k, some c => s.setClass k c
  | none, none => s.ok s.noticeFields
  | some _, none => s.refuse .badLength
  | none, some _ => s.refuse .badLength

/-- GRANT_NOTICES (R167); the credit in one byte (log 36, DEDUCED). -/
def takeGrantNotices (n : Nat) (s : State) : Answer :=
  if 1 ≤ n && n ≤ 255 then
    let granted := s.onNotices fun q => { q with credit := min (q.credit + n) Config.maxCredit }
    granted.ok (bytes1 granted.notices.credit ++ bytes1 granted.notices.entries.length)
  else s.refuse .badArg

/-- WITHHOLD_NOTICES (R167); the credit in one byte (log 36, DEDUCED). -/
def takeWithholdNotices (s : State) : Answer :=
  (s.onNotices fun q => { q with credit := 0 }).ok (bytes1 s.notices.credit)

/-- FETCH_NOTICE (R169). -/
def takeFetchNotice (s : State) : Answer :=
  match s.notices.head? with
  | none => (s, .of .empty (halfBytes s.notices.dropped))
  | some e => (s.onNotices (·.removeHead)).ok (e.bytes s.notices.dropped)

/-! ## The commands -/

/-- SET_NOTICE_CLASS. -/
def execSetNoticeClass (tag : Byte) (kind cls : Option Nat) (s : State) : Result :=
  .next (s.request tag 0x70#8 (takeSetNoticeClass kind cls))

/-- GRANT_NOTICES. -/
def execGrantNotices (tag : Byte) (n : Nat) (s : State) : Result :=
  .next (s.request tag 0x71#8 (takeGrantNotices n))

/-- WITHHOLD_NOTICES. -/
def execWithholdNotices (tag : Byte) (s : State) : Result :=
  .next (s.request tag 0x72#8 takeWithholdNotices)

/-- FETCH_NOTICE. -/
def execFetchNotice (tag : Byte) (s : State) : Result :=
  .next (s.request tag 0x73#8 takeFetchNotice)

end Sys2Proof.Machine
end

