-- ==== Sys2Proof/Machine/HostPort.lean ====
section
/-! DEFINITION. The Host Port's own requests and the counters (section 10.6, chapter 11). -/

namespace Sys2Proof.Machine

/-- IDENTIFY (R181, R188, section 12.2). -/
def takeIdentify (s : State) : Answer :=
  s.ok (bytes2 Config.partCode ++ bytes1 Config.siliconRevision ++ bytes1 s.host.cause.code ++
    bytes4 s.host.baud.rate ++ bytes1 Config.maxStations ++ bytes2 Config.imageBytes ++
    bytes2 Config.imageBytes ++ bytes1 Config.maxRecords ++ bytes1 Config.maxFaults ++
    bytes1 Config.maxNotices)

/-- A frame being taken is discarded as a bad frame, if there is one (R175, R183). -/
def HostPort.discardTaken (h : HostPort) : HostPort :=
  if h.rxFrame.isSome then
    { h with rxFrame := none, counters := { h.counters with bad := satInc h.counters.bad } }
  else h

/-- DEVICE_RESET (R183): the receiver closes; the reset follows the reply. -/
def takeDeviceReset (s : State) : Answer :=
  (s.onHost fun h => { h.discardTaken with rx := .closed },
    { status := .ok, fields := [], after := .reset })

/-- SET_BAUD (R173): the rate changes after the reply. -/
def takeSetBaud (rate : Nat) (s : State) : Answer :=
  match Baud.ofRate rate with
  | none => s.refuse .badArg
  | some b => (s, { status := .ok, fields := bytes4 b.rate, after := .setBaud b })

/-- The counters READ_COUNTERS and CLEAR_COUNTERS return, with the sweep number (R185). -/
def State.counterFields (s : State) : List Byte :=
  s.engine.counters.bytes ++ s.host.counters.bytes ++ s.sweep.stats.bytes ++
  wordBytes s.sweep.number

/-- READ_COUNTERS (R185). -/
def takeReadCounters (s : State) : Answer := s.ok s.counterFields

/-- A record with its six counters at 0 (R186). -/
def Station.clearCounters (t : Station) : Station :=
  { t with attempts := 0#32, timeouts := 0#32, corrupt := 0#32, failed := 0#32, joins := 0#32,
           probeFailures := 0#32 }

/-- The line counters, host counters, sweep statistics and record counters at their starting values
(R186). -/
def State.clearCounters (s : State) : State :=
  (((s.countLine fun _ => .reset).onHost fun h => { h with counters := .reset }).onSweep fun c =>
    { c with stats := .reset }).onStations fun l => l.map Station.clearCounters

/-- CLEAR_COUNTERS: the reply is formed first (R186). -/
def takeClearCounters (s : State) : Answer := s.clearCounters.ok s.counterFields

/-! ## The commands -/

/-- IDENTIFY. -/
def execIdentify (tag : Byte) (s : State) : Result := .next (s.request tag 0x01#8 takeIdentify)

/-- DEVICE_RESET. -/
def execDeviceReset (tag : Byte) (s : State) : Result :=
  .next (s.request tag 0x02#8 takeDeviceReset)

/-- SET_BAUD. -/
def execSetBaud (tag : Byte) (rate : Nat) (s : State) : Result :=
  .next (s.request tag 0x03#8 (takeSetBaud rate))

/-- READ_COUNTERS. -/
def execReadCounters (tag : Byte) (s : State) : Result :=
  .next (s.request tag 0x04#8 takeReadCounters)

/-- CLEAR_COUNTERS. -/
def execClearCounters (tag : Byte) (s : State) : Result :=
  .next (s.request tag 0x05#8 takeClearCounters)

end Sys2Proof.Machine
end

