-- ==== Sys2Proof/Machine/Receiver.lean ====
section
/-! DEFINITION. The host receiver and transmitter, byte by byte and frame by frame, and the resets
(sections 10.1 to 10.4 and 10.6). -/

namespace Sys2Proof.Machine

/-! ## Answering a frame (R177) -/

/-- The owner of a request and its answer; an event has none. -/
def ownerOf : Instr → Option (State → Answer)
  | .identify _ => some takeIdentify
  | .deviceReset _ => some takeDeviceReset
  | .setBaud _ rate => some (takeSetBaud rate)
  | .readCounters _ => some takeReadCounters
  | .clearCounters _ => some takeClearCounters
  | .stagePut _ e => some (takeStagePut e)
  | .stageRemove _ a => some (takeStageRemove a)
  | .stageClear _ => some takeStageClear
  | .stageHeader _ h => some (takeStageHeader h)
  | .stageRevert _ => some takeStageRevert
  | .readRosterSingle _ src a => some (takeReadRosterSingle src a)
  | .readRosterRun _ src a => some (takeReadRosterRun src a)
  | .commit _ => some takeCommit
  | .lineStart _ => some takeLineStart
  | .lineStop _ => some takeLineStop
  | .startSweep _ mode value => some (takeStartSweep mode value)
  | .stopSweep _ => some takeStopSweep
  | .readSweepStatus _ => some takeReadSweepStatus
  | .startSurvey _ => some takeStartSurvey
  | .readSurvey _ a c => some (takeReadSurvey a c)
  | .disableStation _ a => some (takeDisableStation a)
  | .enableStation _ a => some (takeEnableStation a)
  | .readmit _ a => some (takeReadmit a)
  | .readStation _ a => some (takeReadStation a)
  | .readInputsList _ l => some (takeReadInputsList l)
  | .readInputsRun _ a => some (takeReadInputsRun a)
  | .writeOutputs _ l => some (takeWriteOutputs l)
  | .readOutputsList _ l => some (takeReadOutputsList l)
  | .readOutputsRun _ a => some (takeReadOutputsRun a)
  | .setLease _ p => some (takeSetLease p)
  | .renewLease _ => some takeRenewLease
  | .submit _ a => some (takeSubmit a)
  | .queryRequest _ id => some (takeQueryRequest id)
  | .listRequests _ => some takeListRequests
  | .fetchResult _ id => some (takeFetchResult id)
  | .discardResult _ id => some (takeDiscardResult id)
  | .cancel _ id => some (takeCancel id)
  | .readFaults _ => some takeReadFaults
  | .ackFault _ a c => some (takeAckFault a c)
  | .ackOldest _ => some takeAckOldest
  | .clearFaults _ => some takeClearFaults
  | .readCapture _ => some takeReadCapture
  | .clearCapture _ => some takeClearCapture
  | .setNoticeClass _ k c => some (takeSetNoticeClass k c)
  | .grantNotices _ n => some (takeGrantNotices n)
  | .withholdNotices _ => some takeWithholdNotices
  | .fetchNotice _ => some takeFetchNotice
  | .hostFrameReceived _ | .hostGapExpiry | .transmitComplete | .powerOnReset _ | .pinReset _
  | .quietIntervalExpiry | .transmissionComplete | .echoCollision | .replyWindowExpiry
  | .replyFrameEnd _ | .fieldGapExpiry | .guardExpiry | .unawaitedFrameEnd _ | .safeComplete
  | .pacedWaitEnd | .leaseExpiry | .deadlineExpiry _ | .fieldCharacterReceived _
  | .hostByteReceived _ _ => none

/-- An UNKNOWN_KIND reply, counted (R177 check 2, R184). -/
def State.unknownKind (s : State) : Answer :=
  (s.onHost fun h =>
    { h with counters := { h.counters with unknown := satInc h.counters.unknown } }).refuse
    .unknownKind

/-- The answer to a good frame's KIND and payload (R177 checks 2 and 3, R193). -/
def answerParsed (p : Parsed) (s : State) : Answer :=
  match p with
  | .request i =>
    match ownerOf i with
    | some owner => owner s
    | none => s.unknownKind
  | .unknownKind => s.unknownKind
  | .badLength => s.refuse .badLength
  | .badArg => s.refuse .badArg

/-! ## Receiving (R174, R175) -/

/-- The gap limit inside a frame: 2 ms, in clock cycles (R175). -/
def hostGapCycles : Nat := 2 * Config.cyclesPerMillisecond

/-- A frame being taken is discarded: counted bad, and the receiver hunts (R175). -/
def State.discardFrame (s : State) : State :=
  s.onHost fun h =>
    { h with
      rx := .hunt
      rxFrame := none
      counters := { h.counters with bad := satInc h.counters.bad } }

/-- The frame being taken grows, and the receiver goes on in a state. -/
def State.takeBytes (rx : RxState) (bytes : List Byte) (s : State) : State :=
  s.onHost fun h =>
    { h with rx := rx, rxFrame := some bytes, rxGapDue := s.now + hostGapCycles }

/-- A frame's LEN, from its second and third byte. -/
def frameLen (bytes : List Byte) : Nat :=
  match bytes with
  | _ :: lo :: hi :: _ => read2 lo hi
  | _ => 0

/-- A whole frame's CRC is checked: a good frame is accepted, after the receiver has returned to HUNT
(R174 to R177, R191). -/
def State.frameComplete (bytes : List Byte) (s : State) : State :=
  let body := (bytes.drop 1).take (frameLen bytes + 2)
  if bytes.drop (frameLen bytes + 3) = crcBytes (hostCrc body) then
    match body with
    | _ :: _ :: tag :: kind :: payload =>
      (s.onHost fun h => { h with rx := .hunt, rxFrame := none }).acceptFrame tag kind
        (answerParsed (parseRequest tag kind payload))
    | _ => s.discardFrame
  else s.discardFrame

/-- A byte without error, in a state that takes one into the frame (R174, R175). -/
def State.takeByte (bytes : List Byte) (s : State) : State :=
  match s.host.rx with
  | .length =>
    if bytes.length = 3 then
      if 2 ≤ frameLen bytes && frameLen bytes ≤ 252 then s.takeBytes .body bytes
      else s.discardFrame
    else s.takeBytes .length bytes
  | .body => s.takeBytes (if bytes.length = frameLen bytes + 3 then .check else .body) bytes
  | .check => if bytes.length = frameLen bytes + 5 then s.frameComplete bytes
              else s.takeBytes .check bytes
  | .hunt => s
  | .paused => s
  | .closed => s

/-- A byte arrives on HRX (R174, R175). -/
def State.hostByte (b : Byte) (error : Bool) (s : State) : State :=
  match s.host.rx with
  | .hunt => if b = 0xC5#8 && !error then s.takeBytes .length [b] else s
  | .paused => s
  | .closed => s
  | .length | .body | .check =>
    if error then s.discardFrame else s.takeByte (s.host.rxFrame.getD [] ++ [b])

/-! ## Resets (R182, R183) -/

/-- Every block after a reset, at a rate and with a cause; the queue of commands waits on (log 33). -/
def State.afterReset (baud : Baud) (cause : ResetCause) (s : State) : State :=
  { State.reset with
    host := { HostPort.reset with baud := baud, cause := cause }, pending := s.pending }

/-! ## Transmitting (R173, R176, R180, R183) -/

/-- Frees the place or list entry of the reply that has left; the receiver leaves PAUSED when the
overflow list then holds 3 (R176). -/
def HostPort.freePlace (h : Held) (p : HostPort) : HostPort :=
  let freed := { p with held := p.held.tail, tx := .idle }
  { freed with
    rx := if h.overflow && p.rx == .paused && decide (freed.overflowing = Config.maxOverflow - 1)
          then .hunt else p.rx }

/-- The rate changes at the end of a SET_BAUD reply (R173). -/
def HostPort.changeBaud (b : Baud) (p : HostPort) : HostPort :=
  { p.discardTaken with
    baud := b
    rx := match p.rx with
      | .paused => .paused
      | .closed => .closed
      | .hunt | .length | .body | .check => .hunt }

/-- What the last byte of a reply sets off (R173, R183). -/
def State.afterReply (a : After) (s : State) : State :=
  match a with
  | .nothing => s
  | .setBaud b => s.onHost (·.changeBaud b)
  | .reset => s.afterReset s.host.baud .request

/-- The last byte of the frame being sent has left (R180). -/
def State.transmitted (s : State) : State :=
  match s.host.tx with
  | .idle => s
  | .notice _ => s.onHost fun p => { p with tx := .idle }
  | .reply _ =>
    match s.host.held with
    | [] => s.onHost fun p => { p with tx := .idle }
    | h :: _ => (s.onHost (·.freePlace h)).afterReply h.reply.after

/-! ## The commands -/

/-- HOST_BYTE_RECEIVED (R174). -/
def execHostByteReceived (b : Byte) (error : Bool) (s : State) : Result :=
  .next (s.hostByte b error).pump

/-- HOST_FRAME_RECEIVED: its bytes arrive one after the other, without error (R176, log 5). -/
def execHostFrameReceived (bytes : List Byte) (s : State) : Result :=
  .next (bytes.foldl (fun s b => s.hostByte b false) s).pump

/-- HOST_GAP_EXPIRY: a frame being taken is discarded (R175); with none there is no gap (log 3). -/
def execHostGapExpiry (s : State) : Result :=
  if s.host.rxFrame.isSome then .next ((s.at s.host.rxGapDue).discardFrame).pump else .next s

/-- TRANSMIT_COMPLETE (R180). -/
def execTransmitComplete (s : State) : Result :=
  if s.host.tx = .idle then .next s else .next s.transmitted.pump

/-- POWER_ON_RESET (R182). -/
def execPowerOnReset (baudsel : Bool) (s : State) : Result :=
  .next (s.afterReset (.ofBaudsel baudsel) .power)

/-- PIN_RESET (R182). -/
def execPinReset (baudsel : Bool) (s : State) : Result :=
  .next (s.afterReset (.ofBaudsel baudsel) .pin)

end Sys2Proof.Machine
end

