-- ==== Sys2Proof/Machine/Events.lean ====
section
/-! DEFINITION. The events of the field line and of the line's timers (chapters 3 and 4). An event that
cannot occur in the state it finds has no effect (log 3). -/

namespace Sys2Proof.Machine

/-- QUIET_INTERVAL_EXPIRY (R48). -/
def execQuietIntervalExpiry (s : State) : Result :=
  if s.sweep.line = .listening then .next ((s.at s.sweep.quietDue).setLine .ready).pump
  else .next s

/-- A transmission in SENDING that awaits a reply, and its attempt (R81). -/
def State.sendingAttempt (s : State) : Option Attempt :=
  match s.engine.state, s.engine.exchange with
  | .sending, some x => if x.chooser = .safe then none else s.engine.attempt
  | _, _ => none

/-- TRANSMISSION_COMPLETE (R81): every echo still awaited comes well (log 21); the end of a SAFE broadcast is
SAFE_COMPLETE (log 29). -/
def execTransmissionComplete (s : State) : Result :=
  match s.sendingAttempt with
  | some a => .next ((s.at s.engine.due).openWindow a).pump
  | none => .next s

/-- ECHO_COLLISION (R93): counted, and contention. -/
def execEchoCollision (s : State) : Result :=
  if s.engine.state = .sending then .next s.collision.pump
  else .next s

/-- REPLY_WINDOW_EXPIRY (R81). -/
def execReplyWindowExpiry (s : State) : Result :=
  match s.engine.state, s.engine.exchange with
  | .window, some x =>
    .next ((s.at s.engine.due).judged x (.error .timeout) s.engine.due).pump
  | _, _ => .next s

/-- Takes the remaining characters of the frame being taken, as long as the engine is in the state `st`
and the frame has not ended. -/
def State.takeRest (st : EngineState → Bool) (rest : List FieldChar) (s : State) : State :=
  rest.foldl
    (fun s c => if s.engine.frame.isSome && st s.engine.state then s.fieldChar c else s) s

/-- The frame being taken ends for want of a further character, if it has not ended (R78). -/
def State.endTaken (st : EngineState → Bool) (s : State) : State :=
  match s.engine.frame with
  | some f => if st s.engine.state then s.frameEnd f.chars s.now else s
  | none => s

/-- The engine is taking an awaited reply. -/
def EngineState.awaiting (e : EngineState) : Bool := e == .receiving

/-- REPLY_FRAME_END (R82, log 5): the awaited reply's remaining characters arrive and it ends. -/
def execReplyFrameEnd (rest : List FieldChar) (s : State) : Result :=
  if s.engine.frame.isSome && s.engine.state.awaiting then
    .next ((s.takeRest EngineState.awaiting rest).endTaken EngineState.awaiting).pump
  else .next s

/-- UNAWAITED_FRAME_END (R92, log 5): the unawaited frame's remaining characters arrive and it ends. -/
def execUnawaitedFrameEnd (rest : List FieldChar) (s : State) : Result :=
  if s.engine.frame.isSome && !s.engine.state.awaiting then
    .next ((s.takeRest (!·.awaiting) rest).endTaken (!·.awaiting)).pump
  else .next s

/-- FIELD_GAP_EXPIRY (R78): the frame being taken ends at its gap limit. -/
def execFieldGapExpiry (s : State) : Result :=
  match s.engine.frame with
  | some f => .next ((s.at f.gapDue).frameEnd f.chars f.gapDue).pump
  | none => .next s

/-- The guard has run: the engine is IDLE, and sends what it holds unless an unawaited frame is being
taken (R80, R84, R92). -/
def State.guardDone (s : State) : State :=
  let idle := s.onEngine fun e => { e with state := .idle }
  match s.engine.exchange with
  | some x => if s.engine.frame.isNone then idle.beginAttempt x else idle
  | none => idle

/-- GUARD_EXPIRY (R84). -/
def execGuardExpiry (s : State) : Result :=
  if s.engine.state = .guard then .next ((s.at s.engine.due).guardDone).pump else .next s

/-- The SAFE broadcast is being sent (R91). -/
def State.sendingSafe (s : State) : Bool :=
  s.engine.state == .sending && s.engine.exchange.any (·.chooser == .safe)

/-- SAFE_COMPLETE (R91). -/
def execSafeComplete (s : State) : Result :=
  if s.sendingSafe then .next ((s.at s.engine.due).safeDone).pump else .next s

/-- PACED_WAIT_END (R66, R67): the pending copy is applied and the next sweep begins. -/
def execPacedWaitEnd (s : State) : Result :=
  match s.sweep.phase, s.sweep.waitDue with
  | .wait, some due => .next ((s.at due).applyPending.beginUnlessEmpty).pump
  | _, _ => .next s

/-- FIELD_CHARACTER_RECEIVED (R77, R81, R48, and R93 in SENDING). -/
def execFieldCharacterReceived (c : FieldChar) (s : State) : Result := .next (s.fieldChar c).pump

end Sys2Proof.Machine
end

