-- ==== Sys2Proof/Machine/Clock.lean ====
section
/-! DEFINITION. What the part does with no command waiting: which of its running timers has run out, and
one cycle of the reference clock (logs 1, 7, 20, 21, 22). -/

namespace Sys2Proof.Machine

/-- The lease's timer has run out (R110). -/
def State.leaseDue (s : State) : Option Instr :=
  match s.image.lease with
  | .active _ due => if due ≤ s.now then some .leaseExpiry else none
  | .off => none
  | .expired _ => none

/-- The first live record, in acceptance order, whose deadline has run out (R132). -/
def State.deadlineDue (s : State) : Option Instr :=
  (s.requests.records.find? fun t => t.live && decide (t.due ≤ s.now)).map fun t =>
    .deadlineExpiry t.id

/-- No echo has come back by the end of the next character time after a sent character's stop bit: a
collision (R93, log 21). -/
def State.echoOverdue (s : State) : Option Instr :=
  match s.engine.exchange, s.engine.attempt with
  | some x, some a =>
    if s.engine.due + a.charTime * (a.echoed + 2) ≤ s.now + a.charTime * x.bytes.length then
      some .echoCollision
    else none
  | _, _ => none

/-- The engine's interval has run out: an echo's limit in SENDING, the guard at its end, and the window
one character time later, since a delimiter begun inside it is received up to then (R81, R84, R93,
log 20). -/
def State.engineDue (s : State) : Option Instr :=
  match s.engine.state with
  | .sending => s.echoOverdue
  | .window => if s.engine.due + s.charCycles ≤ s.now then some .replyWindowExpiry else none
  | .guard => if s.engine.due ≤ s.now then some .guardExpiry else none
  | .idle => none
  | .receiving => none

/-- The gap limit of the frame being taken has run out, one character time later likewise (R78, log 20). -/
def State.gapDue (s : State) : Option Instr :=
  match s.engine.frame with
  | some f => if f.gapDue + s.charCycles ≤ s.now then some .fieldGapExpiry else none
  | none => none

/-- The quiet interval has run out (R48), or the wait of a PACED plan (R67). -/
def State.lineDue (s : State) : Option Instr :=
  match s.sweep.line, s.sweep.phase, s.sweep.waitDue with
  | .listening, _, _ => if s.sweep.quietDue ≤ s.now then some .quietIntervalExpiry else none
  | .sweeping, .wait, some due => if due ≤ s.now then some .pacedWaitEnd else none
  | _, _, _ => none

/-- The gap limit inside a host frame has run out, one byte time later likewise (R175, log 20). -/
def State.hostDue (s : State) : Option Instr :=
  if s.host.rxFrame.isSome && decide (s.host.rxGapDue + s.host.baud.byteCycles ≤ s.now) then
    some .hostGapExpiry
  else none

/-- A timer of the part that has run out, as the command that is its expiry. -/
def State.dueEvent (s : State) : Option Instr :=
  s.leaseDue.or (s.deadlineDue.or (s.engineDue.or (s.gapDue.or (s.lineDue.or s.hostDue))))

/-- A sweep that found no exchange to make stands before its End phase (log 7). -/
def State.sweepRests (s : State) : Bool :=
  s.sweep.line == .sweeping && s.sweep.phase == .ending && s.engine.exchange.isNone &&
  s.sweep.closing.isNone

/-- One clock cycle passes; a sweep that rests ends. -/
def State.tick (s : State) : State :=
  let later := { s with now := s.now + 1 }
  if s.sweepRests then later.endPhase.pump else later

end Sys2Proof.Machine
end

