-- ==== Sys2Proof/Machine/Dispatch.lean ====
section
/-! DEFINITION. One arm per command, each a direct call of its meaning. -/

namespace Sys2Proof.Machine

def exec (i : Instr) (s : State) : Host.Outcome State Fault Refusal :=
  match i with
  | .identify tag => Sys2Proof.Machine.execIdentify tag s
  | .deviceReset tag => Sys2Proof.Machine.execDeviceReset tag s
  | .setBaud tag rate => Sys2Proof.Machine.execSetBaud tag rate s
  | .readCounters tag => Sys2Proof.Machine.execReadCounters tag s
  | .clearCounters tag => Sys2Proof.Machine.execClearCounters tag s
  | .stagePut tag entry => Sys2Proof.Machine.execStagePut tag entry s
  | .stageRemove tag address => Sys2Proof.Machine.execStageRemove tag address s
  | .stageClear tag => Sys2Proof.Machine.execStageClear tag s
  | .stageHeader tag header => Sys2Proof.Machine.execStageHeader tag header s
  | .stageRevert tag => Sys2Proof.Machine.execStageRevert tag s
  | .readRosterSingle tag source address => Sys2Proof.Machine.execReadRosterSingle tag source address s
  | .readRosterRun tag source start => Sys2Proof.Machine.execReadRosterRun tag source start s
  | .commit tag => Sys2Proof.Machine.execCommit tag s
  | .lineStart tag => Sys2Proof.Machine.execLineStart tag s
  | .lineStop tag => Sys2Proof.Machine.execLineStop tag s
  | .startSweep tag mode value => Sys2Proof.Machine.execStartSweep tag mode value s
  | .stopSweep tag => Sys2Proof.Machine.execStopSweep tag s
  | .readSweepStatus tag => Sys2Proof.Machine.execReadSweepStatus tag s
  | .startSurvey tag => Sys2Proof.Machine.execStartSurvey tag s
  | .readSurvey tag start compare => Sys2Proof.Machine.execReadSurvey tag start compare s
  | .disableStation tag address => Sys2Proof.Machine.execDisableStation tag address s
  | .enableStation tag address => Sys2Proof.Machine.execEnableStation tag address s
  | .readmit tag address => Sys2Proof.Machine.execReadmit tag address s
  | .readStation tag address => Sys2Proof.Machine.execReadStation tag address s
  | .readInputsList tag addresses => Sys2Proof.Machine.execReadInputsList tag addresses s
  | .readInputsRun tag start => Sys2Proof.Machine.execReadInputsRun tag start s
  | .writeOutputs tag items => Sys2Proof.Machine.execWriteOutputs tag items s
  | .readOutputsList tag addresses => Sys2Proof.Machine.execReadOutputsList tag addresses s
  | .readOutputsRun tag start => Sys2Proof.Machine.execReadOutputsRun tag start s
  | .setLease tag period => Sys2Proof.Machine.execSetLease tag period s
  | .renewLease tag => Sys2Proof.Machine.execRenewLease tag s
  | .submit tag arg => Sys2Proof.Machine.execSubmit tag arg s
  | .queryRequest tag id => Sys2Proof.Machine.execQueryRequest tag id s
  | .listRequests tag => Sys2Proof.Machine.execListRequests tag s
  | .fetchResult tag id => Sys2Proof.Machine.execFetchResult tag id s
  | .discardResult tag id => Sys2Proof.Machine.execDiscardResult tag id s
  | .cancel tag id => Sys2Proof.Machine.execCancel tag id s
  | .readFaults tag => Sys2Proof.Machine.execReadFaults tag s
  | .ackFault tag address code => Sys2Proof.Machine.execAckFault tag address code s
  | .ackOldest tag => Sys2Proof.Machine.execAckOldest tag s
  | .clearFaults tag => Sys2Proof.Machine.execClearFaults tag s
  | .readCapture tag => Sys2Proof.Machine.execReadCapture tag s
  | .clearCapture tag => Sys2Proof.Machine.execClearCapture tag s
  | .setNoticeClass tag kind cls => Sys2Proof.Machine.execSetNoticeClass tag kind cls s
  | .grantNotices tag n => Sys2Proof.Machine.execGrantNotices tag n s
  | .withholdNotices tag => Sys2Proof.Machine.execWithholdNotices tag s
  | .fetchNotice tag => Sys2Proof.Machine.execFetchNotice tag s
  | .hostFrameReceived bytes => Sys2Proof.Machine.execHostFrameReceived bytes s
  | .hostGapExpiry => Sys2Proof.Machine.execHostGapExpiry s
  | .transmitComplete => Sys2Proof.Machine.execTransmitComplete s
  | .powerOnReset baudsel => Sys2Proof.Machine.execPowerOnReset baudsel s
  | .pinReset baudsel => Sys2Proof.Machine.execPinReset baudsel s
  | .quietIntervalExpiry => Sys2Proof.Machine.execQuietIntervalExpiry s
  | .transmissionComplete => Sys2Proof.Machine.execTransmissionComplete s
  | .echoCollision => Sys2Proof.Machine.execEchoCollision s
  | .replyWindowExpiry => Sys2Proof.Machine.execReplyWindowExpiry s
  | .replyFrameEnd rest => Sys2Proof.Machine.execReplyFrameEnd rest s
  | .fieldGapExpiry => Sys2Proof.Machine.execFieldGapExpiry s
  | .guardExpiry => Sys2Proof.Machine.execGuardExpiry s
  | .unawaitedFrameEnd rest => Sys2Proof.Machine.execUnawaitedFrameEnd rest s
  | .safeComplete => Sys2Proof.Machine.execSafeComplete s
  | .pacedWaitEnd => Sys2Proof.Machine.execPacedWaitEnd s
  | .leaseExpiry => Sys2Proof.Machine.execLeaseExpiry s
  | .deadlineExpiry id => Sys2Proof.Machine.execDeadlineExpiry id s
  | .fieldCharacterReceived char => Sys2Proof.Machine.execFieldCharacterReceived char s
  | .hostByteReceived byte error => Sys2Proof.Machine.execHostByteReceived byte error s

end Sys2Proof.Machine
end

