-- ==== Sys2Proof/Safety.lean ====
section
/-! DEFINITION. The terms the claims use: when the Host Port takes a request and what it then holds, when an
attempt fails and what a judged one leaves, what a sweep's Latch, its publication and an applied roster
leave, and the laws that the spec says always hold of the part. -/

namespace Sys2Proof.Machine

/-! ## Taking a request -/

/-- The Host Port takes a request with this tag: the receiver takes frames, a place is free, and the
tag is not 0 (R176, R177). -/
def State.Accepting (s : State) (tag : Byte) : Prop :=
  s.host.rx.open = true ∧ s.host.places < 4 ∧ tag ≠ 0#8

/-- The transmitter with these frames held: a free one takes the first (R180). -/
def Transmitter.taking (tx : Transmitter) (held : List Held) : Transmitter :=
  match tx, held with
  | .idle, h :: _ => .reply h.frame
  | .idle, [] => .idle
  | .reply f, _ => .reply f
  | .notice f, _ => .notice f

/-- A Host Port with a frame counted as received good (R176). -/
def HostPort.counted (h : HostPort) : HostPort :=
  { h with counters := { h.counters with good := satInc h.counters.good } }

/-- A Host Port that holds one more request and its reply, and sends it if it is free (R176, R180). -/
def HostPort.holding (h : HostPort) (tag kind : Byte) (r : Reply) : HostPort :=
  let held := h.held ++ [{ overflow := false, tag := tag, kind := kind, reply := r }]
  { h with held := held, tx := h.tx.taking held }

/-- A Host Port that has accepted a request and holds its reply (R176 to R180). -/
def HostPort.replied (h : HostPort) (tag kind : Byte) (r : Reply) : HostPort :=
  h.counted.holding tag kind r

/-- The state with a request accepted and its reply held, and nothing else changed (R176 to R180). -/
def State.answered (tag kind : Byte) (st : Status) (fields : List Byte) (s : State) : State :=
  { s with host := s.host.replied tag kind (Reply.of st fields) }

/-- A Host Port that has listed a frame for an OVERFLOW reply: counted, and paused by the fourth entry
(R176; a frame being taken is dropped then, log 4). -/
def HostPort.overflowed (h : HostPort) (tag kind : Byte) : HostPort :=
  let held := h.held ++ [{ overflow := true, tag := tag, kind := kind, reply := .of .overflow [] }]
  { h with
    held := held
    tx := h.tx.taking held
    rx := if h.overflowing = 3 then .paused else h.rx
    rxFrame := if h.overflowing = 3 then none else h.rxFrame
    counters := { h.counters with good := satInc h.counters.good,
                                  overflows := satInc h.counters.overflows } }

/-- A Host Port that has discarded the frame being taken (R175). -/
def HostPort.discarded (h : HostPort) : HostPort :=
  { h with rx := .hunt, rxFrame := none, counters := { h.counters with bad := satInc h.counters.bad } }

/-- A Host Port that holds these bytes of a frame, the gap limit of 2 ms running (R174, R175). -/
def HostPort.taking (h : HostPort) (rx : RxState) (bytes : List Byte) (now : Nat) : HostPort :=
  { h with rx := rx, rxFrame := some bytes, rxGapDue := now + 48000 }

/-- A Host Port whose first reply has left: its place or list entry is free, and the receiver leaves
PAUSED when the overflow list then holds 3 (R176). -/
def HostPort.freed (p : HostPort) (h : Held) (rest : List Held) : HostPort :=
  { p with
    held := rest
    tx := .idle
    rx := if h.overflow = true ∧ p.rx = .paused ∧ (rest.filter (·.overflow)).length = 3 then .hunt
          else p.rx }

/-- A Host Port at a new rate: a frame being taken is a bad frame, and a receiver that is neither PAUSED
nor CLOSED hunts (R173). -/
def HostPort.rated (p : HostPort) (b : Baud) : HostPort :=
  { p with
    baud := b
    rxFrame := none
    rx := if p.rx = .paused ∨ p.rx = .closed then p.rx else .hunt
    counters := if p.rxFrame.isSome then { p.counters with bad := satInc p.counters.bad }
                else p.counters }

/-! ## Orders -/

/-- The addresses rise strictly, so that none comes twice (R1). -/
def Ascending (l : List Nat) : Prop := l.Pairwise (· < ·)

/-! ## Attempts and replies (R27, R82 to R84, R94) -/

/-- The Link Engine after a judged attempt: the guard runs to `due`, `x` is what is then in flight, and the
judgement is counted; `k` is none for a good reply (R84, R85, R94). -/
def LinkEngine.afterAttempt (k : Option FailureKind) (due : Nat) (x : Option Exchange)
    (e : LinkEngine) : LinkEngine :=
  { e with
    state := .guard, exchange := x, attempt := none, frame := none, due := due
    counters := match k with
      | none => { e.counters with good := satInc e.counters.good }
      | some .timeout => { e.counters with timeouts := satInc e.counters.timeouts }
      | some .corrupt => { e.counters with corrupt := satInc e.counters.corrupt } }

/-- A record after the report of one attempt (R27). -/
def Station.afterAttempt (k : Option FailureKind) (t : Station) : Station :=
  match k with
  | none => { t with attempts := satInc t.attempts }
  | some .timeout => { t with attempts := satInc t.attempts, timeouts := satInc t.timeouts }
  | some .corrupt => { t with attempts := satInc t.attempts, corrupt := satInc t.corrupt }

/-- The records with the one of an address changed. -/
def State.stationsWith (s : State) (a : Nat) (f : Station → Station) : List Station :=
  s.stations.map fun t => if t.address = a then f t else t

/-- The state with a notice raised (R163, R164). -/
def State.noting (n : Notice) (s : State) : State := { s with notices := s.notices.take n }

/-- The characters of a frame end it: it has as many as its length field calls for, received well formed
with 72 or less, or it has 78 (R77). -/
def FrameEnds (chars : List FieldChar) : Prop :=
  (∃ l, chars[3]? = some l ∧ l.ok = true ∧ l.value.toNat ≤ 72 ∧
    chars.length = l.value.toNat + 6) ∨
  78 ≤ chars.length

/-- The frame being taken is these characters once `rest` has arrived, and has not ended before (R77). -/
def State.TakesWhole (s : State) (rest chars : List FieldChar) : Prop :=
  ∃ f, s.engine.frame = some f ∧ chars = f.chars ++ rest ∧
    ∀ k, 0 < k → k < rest.length → ¬ FrameEnds (f.chars ++ rest.take k)

/-- These characters are an intact frame: as many as its length calls for, well formed, with this address,
control field and payload, and the CRC of these (R77). -/
def Intact (chars : List FieldChar) (address control : Nat) (payload : List Byte) : Prop :=
  (∀ c ∈ chars, c.ok = true) ∧ address < 256 ∧ control < 256 ∧ payload.length ≤ 72 ∧
  ∃ first,
    let body := bytes1 address ++ bytes1 control ++ bytes1 payload.length ++ payload
    chars.map (·.value) = first :: (body ++ crcBytes (fieldCrc body))

/-- These characters are no intact frame: fewer than six, one ill formed, another number than the length
field calls for, or a CRC that does not match (R77, R82). -/
def Broken (chars : List FieldChar) : Prop :=
  chars.length < 6 ∨ (∃ c ∈ chars, c.ok = false) ∨
  (∃ l, chars[3]? = some l ∧ chars.length ≠ l.value.toNat + 6) ∨
  ∃ first body crc, chars.map (·.value) = first :: (body ++ crc) ∧ crc.length = 2 ∧
    crc ≠ crcBytes (fieldCrc body)

/-- A record ended by a hand-off, with no detail and no data (R114, R134). -/
def Txn.endedBy (c : ResultCode) (sweep : Word) (u : Txn) : Txn :=
  { u with state := .done { code := c, detail := none, data := none, sweep := sweep } }

/-- The state with the AWAITING records of the addresses `p` ended in their places, each raising REQUEST_DONE
in acceptance order. A record is named by its id, which no other has (R116); every other record, the
marks, next id and the orphan count stay (R134, R135). -/
def State.awaitingEnded (p : Nat → Bool) (c : ResultCode) (s : State) : State :=
  let ended := s.requests.records.filter fun u => u.state == .awaiting && p u.address
  let ids := ended.map (·.id)
  { s with
    requests := { s.requests with records := s.requests.records.map fun u =>
      if u.id ∈ ids then u.endedBy c s.sweep.number else u }
    notices := ended.foldl (fun q u => q.take (.requestDone u.id c u.address none)) s.notices }

/-- The state with a station's departure from ONLINE or FALTERING handed on: its AWAITING records end with
STATION_DOWN, and its mark is cleared (R38, R134). -/
def State.departed (a : Nat) (s : State) : State :=
  let ended := s.awaitingEnded (· == a) .stationDown
  { ended with requests := { ended.requests with marks := s.requests.marks.filter (· != a) } }

/-- The line gone to OFF or HALTED, but for what ends before it: the engine IDLE with nothing in flight,
closing, stop requested, phase and pacing cleared, LINE_STATE raised (R49, R51, R53, R90). -/
def State.goneDown (l : LineState) (s : State) : State :=
  { s with
    engine := { s.engine with
      state := .idle, exchange := none, attempt := none, frame := none, lde := false }
    sweep := { s.sweep with
      line := l, closing := none, stop := false, phase := .idle, pacing := none, cut := false }
    notices := s.notices.take (.lineState l s.sweep.line) }

/-- The state with every AWAITING record ended LINE_DOWN, as a line that goes down ends them (R53, R134). -/
def State.lineDowned (s : State) : State := s.awaitingEnded (fun _ => true) .lineDown

/-- The line gone to OFF; leaving HALTED(CONTENTION) marks its fault inactive (R50, R51, R53). -/
def State.afterOff (s : State) : State :=
  let off := s.lineDowned.goneDown .off
  if s.sweep.line = .halted .contention then { off with faults := s.faults.mark 0 .contention }
  else off

/-- The line gone to HALTED(POLICY) (R53, R70). -/
def State.afterPolicyHalt (s : State) : State := s.lineDowned.goneDown (.halted .policy)

/-- The line gone to HALTED(CONTENTION), once what was running has been cut: the AWAITING records ended, then
CONTENTION raised, then LINE_STATE (R49, R53). -/
def State.afterContention (s : State) : State :=
  State.goneDown (.halted .contention) (s.lineDowned.raiseFault
    { address := 0, code := .contention, active := true, sweep := s.sweep.number, state := none,
      failure := none })

/-- The awaited reply to an exchange is being taken, and with `rest` it is an intact frame of this address,
control field and payload (R76, R77). -/
def State.ReplyComes (s : State) (x : Exchange) (rest : List FieldChar) (address control : Nat)
    (payload : List Byte) : Prop :=
  s.engine.state = .receiving ∧ s.engine.exchange = some x ∧
  ∃ f, s.engine.frame = some f ∧ Intact (f.chars ++ rest) address control payload

/-- The control field of a master kind, its three zero bits zero (R76, R77). -/
def MasterControl (control : Nat) : Prop :=
  control % 8 = 0 ∧ 1 ≤ control / 16 ∧ control / 16 ≤ 5

/-- An intact frame with these fields is a good reply to the exchange: the address, a kind awaited, a length
and payload its layout allows, a DATA's toggle and a REQACK's id; `inWidth` is the input width of the
committed entry (R76, R82, R194, section 12.3). -/
def Exchange.AnsweredBy (x : Exchange) (inWidth : Option Nat) (address control : Nat)
    (payload : List Byte) : Prop :=
  address = x.address ∧
  match x.kind with
  | .poll => control = 128 + 8 * x.toggle.toNat ∧ ∃ w, inWidth = some w ∧ payload.length = 1 + w
  | .ident => (control = 144 ∨ control = 152) ∧ ∃ lo hi inW outW rev : Byte,
      payload = [lo, hi, inW, outW, rev] ∧ inW.toNat ≤ 16 ∧ outW.toNat ≤ 16
  | .req => (control = 160 ∨ control = 168) ∧ ∃ (id outcome detail : Byte) (data : List Byte),
      payload = id :: outcome :: detail :: data ∧ x.payload.head? = some id ∧ data.length ≤ 64 ∧
      (outcome = 1 ∨ (outcome = 0 ∨ outcome = 2) ∧ data = [])
  | .fetch =>
      ((control = 176 ∨ control = 184) ∧ ∃ (id detail : Byte) (data : List Byte),
        payload = id :: detail :: data ∧ data.length ≤ 64) ∨
      ((control = 192 ∨ control = 200) ∧ payload.length = 1)
  | .safe => False

/-- By the command `c` the attempt of the exchange in flight fails, with the kind `k` and its end at
`endedAt`, the clock then at `now`: no reply has started when the window ends; the reply's gap limit
passes while it is no intact frame; or its remaining characters arrive, and it is no intact frame, or one
that is neither a good reply nor of a master kind (R78, R81 to R83, R92; log 2, and log 5 for
REPLY_FRAME_END). -/
def State.AttemptFails (s : State) (x : Exchange) (c : Instr) (k : FailureKind) (endedAt now : Nat) :
    Prop :=
  s.engine.exchange = some x ∧
  ((s.engine.state = .window ∧ c = .replyWindowExpiry ∧ k = .timeout ∧ endedAt = s.engine.due ∧
      now = max s.now s.engine.due) ∨
   (s.engine.state = .receiving ∧ c = .fieldGapExpiry ∧ k = .corrupt ∧
      ∃ f, s.engine.frame = some f ∧ Broken f.chars ∧ endedAt = f.gapDue ∧
        now = max s.now f.gapDue) ∨
   (s.engine.state = .receiving ∧ k = .corrupt ∧ endedAt = s.now ∧ now = s.now ∧
      ∃ rest, c = .replyFrameEnd rest ∧
        ((∃ chars, s.TakesWhole rest chars ∧ Broken chars) ∨
         ∃ address control payload, s.ReplyComes x rest address control payload ∧
          ¬ MasterControl control ∧
          ¬ x.AnsweredBy ((s.entry? x.address).map (·.inWidth)) address control payload)))

/-- What follows a handled outcome: a sweep marked for cutting has reached its frame boundary, any other
goes on (R69, R85, R89). -/
def State.goingOn (next : State → State) (s : State) : State :=
  if s.sweep.cut then s.boundaryReached else next s

/-! ## Laws of rosters (R1 to R4) -/

/-- The fields of a header are in their ranges (R2). -/
def Header.Legal (h : Header) : Prop :=
  50 ≤ h.window ∧ h.window ≤ 2000 ∧ h.window % 10 = 0 ∧ h.repeats ≤ 3 ∧ h.budget ≤ 8

/-- A PATTERN fallback carries exactly output-width bytes (R3). -/
def Fallback.FitsWidth (f : Fallback) (w : Nat) : Prop :=
  match f with
  | .pattern p => p.length = w
  | .zero => True
  | .hold => True

/-- The fields of an entry are in their ranges (R3). -/
def RosterEntry.Legal (e : RosterEntry) : Prop :=
  1 ≤ e.address ∧ e.address ≤ 119 ∧ e.classCode ≤ 65535 ∧ e.inWidth ≤ 16 ∧ e.outWidth ≤ 16 ∧
  e.divisor ∈ [1, 2, 4, 8] ∧ 1 ≤ e.missLimit ∧ e.missLimit ≤ 15 ∧
  e.fallback.FitsWidth e.outWidth ∧ ∀ l ∈ e.label, l.length ≤ 8

/-- A roster as R1 to R3 allow it. -/
def Roster.Legal (r : Roster) : Prop :=
  r.header.Legal ∧ Ascending (r.entries.map (·.address)) ∧ r.entries.length ≤ 40 ∧
  ∀ e ∈ r.entries, e.Legal

/-- A roster whose width sums fit the images (R4). -/
def Roster.Fits (r : Roster) : Prop := r.inSum ≤ 384 ∧ r.outSum ≤ 384

/-- Every roster is legal, and those that run or wait to run fit the images (R1 to R4, R15). -/
def State.RostersLegal (s : State) : Prop :=
  s.roster.staged.Legal ∧ s.roster.committed.Legal ∧ s.roster.committed.Fits ∧
  ∀ r ∈ s.roster.pendingCopy, r.Legal ∧ r.Fits

/-- The entry that STAGE_PUT stores for its argument: the ranges of R3, a miss limit of 0 stored as 3, a
pattern exactly under PATTERN (R3, R7). -/
def StoresEntry (a : EntryArg) (e : RosterEntry) : Prop :=
  e.Legal ∧ a.spare = 0 ∧ e.address = a.address ∧ e.classCode = a.classCode ∧
  e.inWidth = a.inWidth ∧ e.outWidth = a.outWidth ∧ e.divisor = a.divisor ∧
  e.missLimit = (if a.missLimit = 0 then 3 else a.missLimit) ∧
  e.startDisabled = a.startDisabled ∧ e.label = a.label ∧
  match e.fallback with
  | .zero => a.mode = 0 ∧ a.pattern = []
  | .hold => a.mode = 1 ∧ a.pattern = []
  | .pattern p => a.mode = 2 ∧ a.pattern = p

/-- The header that STAGE_HEADER leaves: each field given by the mask is taken, the others are kept, and
the result is legal in every field given (R2, R9). -/
def SetsHeader (a : HeaderArg) (old new : Header) : Prop :=
  a.mask.toNat < 32 ∧
  (if a.mask.getLsbD 0 then new.speed.code = a.speed else new.speed = old.speed) ∧
  (if a.mask.getLsbD 1 then
      new.window = a.window ∧ 50 ≤ a.window ∧ a.window ≤ 2000 ∧ a.window % 10 = 0
    else new.window = old.window) ∧
  (if a.mask.getLsbD 2 then new.repeats = a.repeats ∧ a.repeats ≤ 3 else new.repeats = old.repeats) ∧
  (if a.mask.getLsbD 3 then new.budget = a.budget ∧ a.budget ≤ 8 else new.budget = old.budget) ∧
  (if a.mask.getLsbD 4 then new.policy.code = a.policy else new.policy = old.policy)

/-- The plan that START_SWEEP names: COUNTED 1..65535, FREE, PACED 5..10000 (R45, R55). -/
def PlanNamed (mode value : Nat) (p : Plan) : Prop :=
  (mode = 0 ∧ 1 ≤ value ∧ value ≤ 65535 ∧ p = .counted value) ∨ (mode = 1 ∧ p = .free) ∨
  (mode = 2 ∧ 5 ≤ value ∧ value ≤ 10000 ∧ p = .paced value)

/-- A station address (spec/00, Station addresses). -/
def IsStation (a : Nat) : Prop := 1 ≤ a ∧ a ≤ 119

/-! ## Sweeps and applied rosters (R18 to R23, R61, R104) -/

/-- The state in which the next sweep has latched, its phase CYCLIC (R61, R67, R99). -/
def State.afterLatch (s : State) : State :=
  let number := s.sweep.number + 1
  { s with
    sweep := { s.sweep with
      number := number, phase := .cyclic, startedAt := s.now, cursor := 0, slots := 0,
      passedOver := []
      pacing := s.sweep.pacing.map fun p =>
        { base := if p.count = 0 then s.now else p.base, count := p.count + 1 } }
    image := { s.image with images := s.image.images.map fun i =>
      { i with latched := i.staged, latchedIn := some number, delivered := false } } }

/-- An image after a publication under a sweep number (R104). -/
def Image.afterPublication (number : Word) (i : Image) : Image :=
  if i.delivered then
    { i with validity := .fresh, published := some i.working, lastFresh := some number }
  else if i.lastFresh.isSome then { i with validity := .held }
  else { i with validity := .absent, published := none }

/-- The Image Store after a publication (R104). -/
def ImageStore.afterPublication (number : Word) (cut : Bool) (m : ImageStore) : ImageStore :=
  { m with
    images := m.images.map (·.afterPublication number), snapshotSweep := number, snapshotCut := cut }

/-- The line gone to READY from a sweep (R53, R57, R58). -/
def State.afterReady (s : State) : State :=
  { s with
    sweep := { s.sweep with line := .ready, closing := none, stop := false, phase := .idle,
                            pacing := none, cut := false }
    notices := s.notices.take (.lineState .ready s.sweep.line) }

/-- The record that an entry starts afresh (R20, R25). -/
def RosterEntry.startedStation (e : RosterEntry) : Station :=
  { address := e.address, state := if e.startDisabled then .disabled else .pending, miss := 0,
    toggle := false, flags := .clear, identity := none, attempts := 0, timeouts := 0,
    corrupt := 0, failed := 0, joins := 0, probeFailures := 0 }

/-- The image that an entry starts afresh (R20, R96, R98). -/
def RosterEntry.startedImage (e : RosterEntry) : Image :=
  let fallback := match e.fallback with
    | .zero => List.replicate e.outWidth 0#8
    | .hold => List.replicate e.outWidth 0#8
    | .pattern p => p
  { address := e.address, staged := fallback, origin := .fallback, latched := fallback,
    latchedIn := none, working := List.replicate e.inWidth 0#8, delivered := false,
    validity := .absent, published := none, lastFresh := none }

/-- A transaction record after an application with these classes: AWAITING ones of a Changed address end
with STATION_DOWN, live ones of a Removed address with STATION_REMOVED (R20, R21). -/
def Txn.afterApplication (cls : Nat → AddressClass) (sweep : Word) (u : Txn) : Txn :=
  if cls u.address = .changed ∧ u.state = .awaiting then u.endedBy .stationDown sweep
  else if cls u.address = .removed ∧ (u.state = .queued ∨ u.state = .awaiting) then
    u.endedBy .stationRemoved sweep
  else u

/-- A fault entry after an application with these classes: the station faults of Changed and Removed
addresses are inactive (R20, R21). -/
def FaultEntry.afterApplication (cls : Nat → AddressClass) (e : FaultEntry) : FaultEntry :=
  if (cls e.address = .changed ∨ cls e.address = .removed) ∧
      (e.code = .noAnswer ∨ e.code = .mismatch ∨ e.code = .stationAlarm) then
    { e with active := false }
  else e

/-- What an application raises: address by address, ascending, REQUEST_DONE of the records it ends and
STATION_STATE of a fresh station record, and then COMMIT_APPLIED (R20, R21, R23, R43, R135; log 27). -/
def State.applicationNotices (s : State) (new : Roster) : List Notice :=
  let old := s.roster.committed
  let cls := addressClass old new
  let addresses := (List.range 120).filter fun a => (old.entry? a).isSome || (new.entry? a).isSome
  let number (c : AddressClass) : Nat := (addresses.filter (cls · == c)).length
  let ends (a : Nat) (states : List TxnState) (c : ResultCode) : List Notice :=
    (s.requests.records.filter fun u => u.address == a && states.contains u.state).map fun u =>
      .requestDone u.id c a none
  let fresh (a : Nat) : List Notice := ((new.entry? a).map fun e =>
    Notice.stationState a (if e.startDisabled then .disabled else .pending) none 0).toList
  addresses.flatMap (fun a => match cls a with
    | .kept => []
    | .changed => ends a [.awaiting] .stationDown ++ fresh a
    | .new => fresh a
    | .removed => ends a [.queued, .awaiting] .stationRemoved) ++
  [.commitApplied (s.roster.generation + 1) (number .kept) (number .changed) (number .new)
    (number .removed)]

/-- `t` is `s` with a roster applied. The generation rises; Kept addresses keep record, image and mark,
Changed and New ones start afresh, Removed ones have none; transactions end, faults turn inactive and
notices are raised; and nothing else changes but what the Host Port makes of it (R18 to R23, R96, R97). -/
def State.Applied (s : State) (new : Roster) (t : State) : Prop :=
  let old := s.roster.committed
  let cls := addressClass old new
  let unique : Prop := (s.requests.records.map (·.id)).Nodup
  let entries := s.faults.entries.map (·.afterApplication cls)
  t.roster = { s.roster with committed := new, generation := s.roster.generation + 1 } ∧
  (∀ a, cls a = .kept → t.station? a = s.station? a ∧ t.image? a = s.image? a) ∧
  (∀ a e, cls a = .changed ∨ cls a = .new → new.entry? a = some e →
    t.station? a = some e.startedStation ∧ t.image? a = some e.startedImage) ∧
  (∀ a, cls a = .removed → t.station? a = none ∧ t.image? a = none) ∧
  t.requests.marks = s.requests.marks.filter (cls · == .kept) ∧
  (unique → t.requests.records =
    s.requests.records.map (·.afterApplication cls s.sweep.number)) ∧
  (∀ u ∈ t.requests.records, u.state = .awaiting → cls u.address = .kept) ∧
  t.requests.nextId = s.requests.nextId ∧ t.requests.orphans = s.requests.orphans ∧
  t.faults.entries = entries ∧ t.faults.overflow = s.faults.overflow ∧
  t.faults.capture = s.faults.capture ∧
  (s.faults.flt = s.faults.entries.any (·.active) → t.faults.flt = entries.any (·.active)) ∧
  (unique → old.Legal → new.Legal →
    t.notices = (s.applicationNotices new).foldl (fun q n => q.take n) s.notices) ∧
  t.sweep = s.sweep ∧ t.engine = s.engine ∧ t.survey = s.survey ∧
  t.image.lease = s.image.lease ∧ t.image.snapshotSweep = s.image.snapshotSweep ∧
  t.image.snapshotCut = s.image.snapshotCut ∧ t.now = s.now ∧ t.pending = s.pending

/-- `t` is `s` with its pending copy applied and discarded, or `s` itself where there is none (R17, R66). -/
def State.CopyApplied (s t : State) : Prop :=
  match s.roster.pendingCopy with
  | none => t = s
  | some r =>
    State.Applied { s with roster := { s.roster with pendingCopy := none } } r t ∧ t.host = s.host

/-- The station of this entry is the one the Cyclic phase serves next: it is due, its record is in a state
that is served, and no such station stands between it and the one last reached (R26, R60, R62). -/
def State.ServesNext (s : State) (number : Word) (cursor : Nat) (e : RosterEntry) (r : Station) :
    Prop :=
  let served (t : Station) : Prop :=
    t.state = .pending ∨ t.state = .online ∨ t.state = .faltering
  Ascending (s.roster.committed.entries.map (·.address)) ∧ e ∈ s.roster.committed.entries ∧
  cursor < e.address ∧ number.toNat % e.divisor = e.address % e.divisor ∧
  s.station? e.address = some r ∧ served r ∧
  ∀ f ∈ s.roster.committed.entries, cursor < f.address → f.address < e.address →
    number.toNat % f.divisor = f.address % f.divisor →
    ∀ t, s.station? f.address = some t → ¬ served t

/-! ## Laws of records and images (R24, R28, R96, R104) -/

/-- One station record and one station image for each entry of the committed roster (R24, R96). -/
def State.RecordsMatchRoster (s : State) : Prop :=
  s.stations.map (·.address) = s.roster.committed.entries.map (·.address) ∧
  s.image.images.map (·.address) = s.roster.committed.entries.map (·.address)

/-- A record's miss count against its entry's limit (R28). -/
def Station.MissLaw (t : Station) (limit : Nat) : Prop :=
  t.miss ≤ limit ∧ (t.miss = limit ↔ t.state = .lost ∨ t.state = .parked)

/-- R28's law holds of every record. -/
def State.MissLaw (s : State) : Prop :=
  ∀ t ∈ s.stations, ∀ e ∈ s.roster.committed.entries, e.address = t.address → t.MissLaw e.missLimit

/-- The station records' laws with what they rest on. -/
def State.StationsLawful (s : State) : Prop :=
  s.RostersLegal ∧ s.RecordsMatchRoster ∧ s.MissLaw

/-- An image holds data of its entry's widths, and its validity is NONE exactly while it has never been
published FRESH (R96, R104). -/
def Image.Law (i : Image) (e : RosterEntry) : Prop :=
  i.staged.length = e.outWidth ∧ i.latched.length = e.outWidth ∧ i.working.length = e.inWidth ∧
  (∀ p ∈ i.published, p.length = e.inWidth) ∧ (i.validity = .absent ↔ i.lastFresh = none) ∧
  (i.published.isSome ↔ i.lastFresh.isSome)

/-- The image laws with what they rest on. -/
def State.ImagesLawful (s : State) : Prop :=
  s.RostersLegal ∧ s.RecordsMatchRoster ∧
  ∀ i ∈ s.image.images, ∀ e ∈ s.roster.committed.entries, e.address = i.address → i.Law e

/-! ## Laws of the Request Queue (R116, R124) -/

/-- The records hold no more than R116 allows. -/
def RequestQueue.Bounded (q : RequestQueue) : Prop :=
  q.records.length ≤ 24 ∧ (q.records.map (·.id)).Nodup ∧
  (∀ t ∈ q.records, 1 ≤ t.id ∧ t.id ≤ 255) ∧ 1 ≤ q.nextId ∧ q.nextId ≤ 255 ∧
  (q.records.filter (·.isAwaiting)).length ≤ 4 ∧
  ((q.records.filter (·.isAwaiting)).map (·.address)).Nodup

/-- A REQ in flight is to a station that awaits nothing, with room for one more AWAITING record (R125). -/
def State.ReqInFlightLaw (s : State) : Prop :=
  ∀ x ∈ s.engine.exchange, x.chooser = .acyclic → x.kind = .req →
    (s.requests.records.filter (·.isAwaiting)).length < 4 ∧
    ∀ t ∈ s.requests.records, t.isAwaiting = true → t.address ≠ x.address

/-- The station of every QUEUED or AWAITING record has an entry in the committed roster (R20, R21, R117). -/
def State.LiveRecordsRostered (s : State) : Prop :=
  ∀ t ∈ s.requests.records, t.state = .queued ∨ t.state = .awaiting →
    (s.entry? t.address).isSome = true

/-- R116 with what keeps it, and the roster entries of the records that are not DONE. -/
def State.RequestsLawful (s : State) : Prop :=
  s.requests.Bounded ∧ s.ReqInFlightLaw ∧ s.LiveRecordsRostered

/-- A mark that is set belongs to a station in ONLINE or FALTERING, and the marks are listed in ascending
order of their addresses, none twice (R124, R125). -/
def State.MarksLawful (s : State) : Prop :=
  s.RostersLegal ∧ s.RecordsMatchRoster ∧ (∀ a ∈ s.requests.marks, s.polled a = true) ∧
  Ascending s.requests.marks

/-! ## Laws of the Fault List and the Notice Queue (R137, R142, R162, R167, R171) -/

/-- At most 12 entries, no two of one address and code, and FLT is asserted while one is active
(R137, R142). -/
def FaultList.Law (l : FaultList) : Prop :=
  l.entries.length ≤ 12 ∧ (l.entries.map fun e => (e.address, e.code)).Nodup ∧
  l.flt = l.entries.any (·.active)

/-- Every class of the table is 0..3 (R161). -/
def ClassTable.Legal (t : ClassTable) : Prop :=
  t.faultRaised ≤ 3 ∧ t.lineState ≤ 3 ∧ t.stationState ≤ 3 ∧ t.requestDone ≤ 3 ∧
  t.commitApplied ≤ 3 ∧ t.surveyDone ≤ 3 ∧ t.sweepDone ≤ 3

/-- At most 16 entries, no two of one kind and subject, classes in their ranges, credit at most 255, and
ATN asserted exactly when the queue is not empty (R161, R162, R167, R171). -/
def NoticeQueue.Law (q : NoticeQueue) : Prop :=
  q.entries.length ≤ 16 ∧ (q.entries.map (·.notice.matter)).Nodup ∧
  (∀ e ∈ q.entries, 1 ≤ e.cls ∧ e.cls ≤ 3) ∧ q.classes.Legal ∧ q.credit ≤ 255 ∧
  q.atn = !q.entries.isEmpty

/-! ## Laws of the Link Engine and the line (R46, R75, R79) -/

/-- Who may have an exchange in flight in which line state: a sweep's in SWEEPING and in the phase that
chose it, the survey's in SURVEYING, a SAFE broadcast while a closing is in progress (R46, R62 to R64,
R80). -/
def State.ExchangeAllowed (s : State) (x : Exchange) : Prop :=
  match x.chooser with
  | .cyclic => s.sweep.line = .sweeping ∧ s.sweep.phase = .cyclic
  | .acyclic => s.sweep.line = .sweeping ∧ s.sweep.phase = .acyclic
  | .probe => s.sweep.line = .sweeping ∧ s.sweep.phase = .probe
  | .survey => s.sweep.line = .surveying
  | .safe => s.sweep.closing.isSome = true

/-- LDE is asserted exactly in SENDING, so until the last echo (log 38, DESIGN CHOICE); no frame is being
taken in SENDING and WINDOW; an attempt belongs to an exchange in flight (R75, R79, R81, R92). -/
def LinkEngine.Law (e : LinkEngine) : Prop :=
  e.lde = (e.state == .sending) ∧ (e.state = .sending ∨ e.state = .window → e.frame = none) ∧
  (e.state.attempting = true → e.exchange.isSome = true ∧ e.attempt.isSome = true)

/-- Every exchange in flight is one the line state allows; while a closing is in progress only the
attempt of a sweep being cut, or of a survey, may still be running; nothing is in flight in WAIT; and
only a sweep is marked for cutting (R46, R51, R67, R69). -/
def State.LineDrivenLawfully (s : State) : Prop :=
  s.engine.Law ∧ (∀ x ∈ s.engine.exchange, s.ExchangeAllowed x) ∧
  (s.sweep.closing.isSome = true → ∀ x ∈ s.engine.exchange, x.chooser ≠ .safe →
    s.engine.state.attempting = true ∧ (s.sweep.line = .sweeping → s.sweep.cut = true)) ∧
  (s.sweep.phase = .wait →
    s.sweep.line = .sweeping ∧ s.engine.exchange = none ∧ s.sweep.closing = none) ∧
  (s.sweep.cut = true → s.sweep.line = .sweeping)

/-! ## Laws of the Survey Unit and the Host Port (R151, R176, R180) -/

/-- The survey list is short, ascending and within the addresses done; a current address is present
exactly while a survey runs (R151). -/
def SurveyUnit.Law (u : SurveyUnit) : Prop :=
  u.found.length ≤ 40 ∧ Ascending (u.found.map (·.address)) ∧
  (∀ f ∈ u.found, f.address ≤ u.done) ∧ (u.current.isSome ↔ u.status = .running)

/-- While a survey runs its current address follows those done, and a survey exchange in flight is an
IDENT to the current address (R151, R153); with the line's laws, on which this rests. -/
def State.SurveyLawful (s : State) : Prop :=
  s.LineDrivenLawfully ∧ s.survey.Law ∧
  (s.survey.status = .running → s.survey.current = some (s.survey.done + 1)) ∧
  ∀ x ∈ s.engine.exchange, x.chooser = .survey →
    x.kind = .ident ∧ s.survey.current = some x.address

/-- The receiver is inside a frame (R174). -/
def RxState.Framing (r : RxState) : Prop := r = .length ∨ r = .body ∨ r = .check

/-- At most 4 places and 4 overflow entries are held; the receiver is PAUSED exactly while the overflow
list is full; it holds part of a frame exactly while it is inside one (R174, R176). -/
def HostPort.Law (h : HostPort) : Prop :=
  h.places ≤ 4 ∧ h.overflowing ≤ 4 ∧ (h.rx = .paused ↔ h.overflowing = 4) ∧
  (h.rxFrame.isSome ↔ h.rx.Framing)

/-- The transmitter is never free while a reply is ready or a notice is offered, and a reply being sent
is that of the request accepted first (R179, R180). -/
def State.TransmitterBusy (s : State) : Prop :=
  match s.host.tx with
  | .idle => s.host.held = [] ∧ (s.notices.credit = 0 ∨ s.notices.entries = [])
  | .reply f => s.host.held.head?.map Held.frame = some f
  | .notice _ => True

end Sys2Proof.Machine
end

