-- ==== Sys2Proof/WellFormed.lean ====
section
/-! DEFINITION. Which commands can be sent: every operand fits the field of the frame that carries it
(spec/12), a request's payload fits a request frame (R174: LEN at most 252), a whole host frame has
the shape of one (section 12.1) and a reply's characters are no more than a frame can hold (R76).
Nothing here is a check of the part: a value in the field but out of its rule's range is answered
BAD_ARG by its owner. -/

namespace Sys2Proof

/-- A one-byte field holds the value. -/
def fitsByte (n : Nat) : Bool := decide (n < 256)

/-- A two-byte field holds the value. -/
def fitsHalf (n : Nat) : Bool := decide (n < 65536)

/-- A four-byte field holds the value. -/
def fitsWord (n : Nat) : Bool := decide (n < 4294967296)

/-- The payload is no longer than a request frame carries: 0..250 bytes (section 10.2). -/
def fitsPayload (n : Nat) : Bool := decide (n ≤ 250)

/-- The fields of a STAGE_PUT entry fit their layout; the pattern and label have one-byte lengths. -/
def EntryArg.wellFormed (e : EntryArg) : Bool :=
  fitsByte e.address && fitsHalf e.classCode && fitsByte e.inWidth && fitsByte e.outWidth &&
  fitsByte e.divisor && fitsByte e.missLimit && decide (e.mode < 4) && decide (e.spare < 16) &&
  fitsPayload (9 + e.pattern.length + (e.label.elim 0 fun l => 1 + l.length))

/-- The fields of STAGE_HEADER fit their layout. -/
def HeaderArg.wellFormed (h : HeaderArg) : Bool :=
  fitsByte h.speed && fitsHalf h.window && fitsByte h.repeats && fitsByte h.budget &&
  fitsByte h.policy

/-- The fields of SUBMIT fit their layout. -/
def SubmitArg.wellFormed (a : SubmitArg) : Bool :=
  fitsByte a.address && fitsByte a.service && fitsHalf a.deadline && fitsPayload (5 + a.data.length)

/-- Bytes of a WRITE_OUTPUTS payload (section 12.2). -/
def itemsLength (items : List OutputItem) : Nat :=
  items.foldr (fun i n => 2 + i.bytes.length + n) 1

/-- The bytes are one whole host frame: SYNC, LEN in 2..252, and LEN + 5 bytes in all (section
12.1). Its CRC need not match. -/
def isHostFrame : List Byte → Bool
  | sync :: lo :: hi :: rest =>
    let len := lo.toNat + 256 * hi.toNat
    sync == 0xC5#8 && decide (2 ≤ len) && decide (len ≤ 252) && rest.length == len + 2
  | _ => false

/-- The command can be sent. -/
def Instr.wellFormed : Instr → Bool
  | .identify _ => true
  | .deviceReset _ => true
  | .setBaud _ rate => fitsWord rate
  | .readCounters _ => true
  | .clearCounters _ => true
  | .stagePut _ e => e.wellFormed
  | .stageRemove _ a => fitsByte a
  | .stageClear _ => true
  | .stageHeader _ h => h.wellFormed
  | .stageRevert _ => true
  | .readRosterSingle _ src a => fitsByte src && fitsByte a
  | .readRosterRun _ src a => fitsByte src && fitsByte a
  | .commit _ => true
  | .lineStart _ => true
  | .lineStop _ => true
  | .startSweep _ mode value => fitsByte mode && fitsHalf value
  | .stopSweep _ => true
  | .readSweepStatus _ => true
  | .startSurvey _ => true
  | .readSurvey _ a c => fitsByte a && fitsByte c
  | .disableStation _ a => fitsByte a
  | .enableStation _ a => fitsByte a
  | .readmit _ a => fitsByte a
  | .readStation _ a => fitsByte a
  | .readInputsList _ l => l.all fitsByte && fitsPayload (1 + l.length)
  | .readInputsRun _ a => fitsByte a
  | .writeOutputs _ items =>
    items.all (fun i => fitsByte i.address) && fitsPayload (itemsLength items)
  | .readOutputsList _ l => l.all fitsByte && fitsPayload (1 + l.length)
  | .readOutputsRun _ a => fitsByte a
  | .setLease _ p => fitsHalf p
  | .renewLease _ => true
  | .submit _ a => a.wellFormed
  | .queryRequest _ id => fitsByte id
  | .listRequests _ => true
  | .fetchResult _ id => fitsByte id
  | .discardResult _ id => fitsByte id
  | .cancel _ id => fitsByte id
  | .readFaults _ => true
  | .ackFault _ a c => fitsByte a && fitsByte c
  | .ackOldest _ => true
  | .clearFaults _ => true
  | .readCapture _ => true
  | .clearCapture _ => true
  | .setNoticeClass _ k c =>
    k.isSome == c.isSome && (k.all fitsByte) && (c.all fitsByte)
  | .grantNotices _ n => fitsByte n
  | .withholdNotices _ => true
  | .fetchNotice _ => true
  | .hostFrameReceived bytes => isHostFrame bytes
  | .hostGapExpiry => true
  | .transmitComplete => true
  | .powerOnReset _ => true
  | .pinReset _ => true
  | .quietIntervalExpiry => true
  | .transmissionComplete => true
  | .echoCollision => true
  | .replyWindowExpiry => true
  | .replyFrameEnd rest => decide (rest.length ≤ 78)
  | .fieldGapExpiry => true
  | .guardExpiry => true
  | .unawaitedFrameEnd rest => decide (rest.length ≤ 78)
  | .safeComplete => true
  | .pacedWaitEnd => true
  | .leaseExpiry => true
  | .deadlineExpiry id => fitsByte id
  | .fieldCharacterReceived _ => true
  | .hostByteReceived _ _ => true

end Sys2Proof
end

