-- ==== Sys2Proof/Certificates/Slice0/Obligations.lean ====
section
/-! DEFINITION. The statements about the CL40, for the provers. A request's statement assumes that the
Host Port takes it (`State.Accepting`); what the Host Port does with it otherwise, it states once. -/

section

open Sys2Proof Sys2Proof.Machine

/-! ## Steps, reset and the laws of every step -/

/-- A step with a command waiting is that command's effect on the state with the queue's rest. -/
def Obligations.StepRunsTheFrontCommand : Prop :=
  ∀ (c : Instr) (s : State), step { s with pending := c :: s.pending } = exec c s

/-- The model's own choice (logs 1, 7, 20, 21): with no command waiting, the first timer that has run out, in
the order lease, deadlines in acceptance order, engine, field gap, line and host gap, runs as its
command. A window, a field gap and a host gap wait one character or byte time longer (log 20). With
none run out one clock cycle passes, in which a sweep that found no exchange to make ends. -/
def Obligations.IdleStepFiresADueTimerOrPassesACycle : Prop :=
  ∀ s : State, s.pending = [] →
    let char : Nat := match s.roster.committed.header.speed with
      | .kbit500 => 528
      | .mbit1 => 264
      | .mbit2 => 132
      | .mbit4 => 66
    let byte : Nat := (240000000 + s.host.baud.rate - 1) / s.host.baud.rate
    let live (t : Txn) : Prop := t.state = .queued ∨ t.state = .awaiting
    let lease : Prop := ∃ p due, s.image.lease = .active p due ∧ due ≤ s.now
    let deadline (id : Nat) : Prop := ∃ before t after,
      s.requests.records = before ++ t :: after ∧ t.id = id ∧ live t ∧ t.due ≤ s.now ∧
      ∀ u ∈ before, live u → s.now < u.due
    let echo : Prop := s.engine.state = .sending ∧
      ∃ x a, s.engine.exchange = some x ∧ s.engine.attempt = some a ∧
        s.engine.due + a.charTime * (a.echoed + 2) ≤
          s.now + a.charTime * (x.payload.length + 6)
    let window : Prop := s.engine.state = .window ∧ s.engine.due + char ≤ s.now
    let guarded : Prop := s.engine.state = .guard ∧ s.engine.due ≤ s.now
    let gap : Prop := ∃ f, s.engine.frame = some f ∧ f.gapDue + char ≤ s.now
    let quiet : Prop := s.sweep.line = .listening ∧ s.sweep.quietDue ≤ s.now
    let wait : Prop := s.sweep.line = .sweeping ∧ s.sweep.phase = .wait ∧
      ∃ p q, s.sweep.plan = .paced p ∧ s.sweep.pacing = some q ∧
        q.base + q.count * (p * 2400) ≤ s.now
    let hostGap : Prop := s.host.rxFrame.isSome = true ∧ s.host.rxGapDue + byte ≤ s.now
    let rests : Prop := s.sweep.line = .sweeping ∧ s.sweep.phase = .ending ∧
      s.engine.exchange = none ∧ s.sweep.closing = none
    let none1 : Prop := ¬ lease ∧ ∀ id, ¬ deadline id
    let none2 : Prop := none1 ∧ ¬ echo ∧ ¬ window ∧ ¬ guarded
    let none3 : Prop := none2 ∧ ¬ gap
    let none4 : Prop := none3 ∧ ¬ quiet ∧ ¬ wait
    (lease → step s = exec .leaseExpiry s) ∧
    (∀ id, ¬ lease → deadline id → step s = exec (.deadlineExpiry id) s) ∧
    (none1 → echo → step s = exec .echoCollision s) ∧
    (none1 → window → step s = exec .replyWindowExpiry s) ∧
    (none1 → guarded → step s = exec .guardExpiry s) ∧
    (none2 → gap → step s = exec .fieldGapExpiry s) ∧
    (none3 → quiet → step s = exec .quietIntervalExpiry s) ∧
    (none3 → wait → step s = exec .pacedWaitEnd s) ∧
    (none4 → hostGap → step s = exec .hostGapExpiry s) ∧
    (none4 → ¬ hostGap → ¬ rests → step s = .next { s with now := s.now + 1 }) ∧
    (none4 → ¬ hostGap → rests →
      step s = .next (State.pump (State.endPhase { s with now := s.now + 1 })))

/-- No step of the part faults or is refused: every command answers a next state in every state, an event
that cannot occur there the state as it was (log 3), and so does a request that the receiver passes
over (log 4). -/
def Obligations.EveryStepAnswersANextState : Prop :=
  ∀ s : State, (∃ t, step s = .next t) ∧ ∀ c : Instr, ∃ t, exec c s = .next t

/-- The values the spec gives every block after reset, and every law below holds of them. BAUDSEL low
is the model's choice (log 8). -/
def Obligations.ResetStateAsSpecifiedAndLawful : Prop :=
  let r := State.reset
  (r.roster.staged = { header := .default, entries := [] } ∧ r.roster.committed = r.roster.staged ∧
    r.roster.pendingCopy = none ∧ r.roster.generation = 0 ∧ r.stations = []) ∧
  (Header.default = { speed := .mbit1, window := 300, repeats := 1, budget := 2, policy := .auto }) ∧
  (r.sweep.line = .off ∧ r.sweep.closing = none ∧ r.sweep.plan = .counted 1 ∧
    r.sweep.remaining = 0 ∧ r.sweep.stop = false ∧ r.sweep.number = 0 ∧ r.sweep.phase = .idle ∧
    r.sweep.probe = 0 ∧ r.sweep.pacing = none ∧ r.sweep.act = false ∧
    r.sweep.stats = { last := 0, minimum := 0xFFFFFFFF, maximum := 0, completed := 0,
                      abandoned := 0, overruns := 0 }) ∧
  (r.engine.state = .idle ∧ r.engine.exchange = none ∧ r.engine.attempt = none ∧
    r.engine.frame = none ∧ r.engine.lde = false ∧
    r.engine.counters = { sent := 0, good := 0, timeouts := 0, corrupt := 0, stray := 0,
                          collisions := 0, foreign := 0 }) ∧
  (r.image.images = [] ∧ r.image.snapshotSweep = 0 ∧ r.image.snapshotCut = false ∧
    r.image.lease = .off) ∧
  (r.requests = { records := [], nextId := 1, marks := [], orphans := 0 }) ∧
  (r.faults = { entries := [], overflow := 0, capture := none, flt := false }) ∧
  (r.survey = { status := .idle, found := [], overflow := false, done := 0, foundTotal := 0,
                noisy := 0, current := none, startGeneration := none }) ∧
  (r.notices.entries = [] ∧ r.notices.credit = 0 ∧ r.notices.dropped = 0 ∧ r.notices.atn = false ∧
    r.notices.classes = { faultRaised := 3, lineState := 3, stationState := 2, requestDone := 2,
                          commitApplied := 1, surveyDone := 1, sweepDone := 1 }) ∧
  (r.host.rx = .hunt ∧ r.host.rxFrame = none ∧ r.host.held = [] ∧ r.host.tx = .idle ∧
    r.host.cause = .power ∧ r.host.baud = .b115200 ∧
    r.host.counters = { good := 0, bad := 0, overflows := 0, unknown := 0 }) ∧
  (r.pinLevels = { atn := true, flt := true, act := false, lde := false } ∧ r.pending = []) ∧
  (r.StationsLawful ∧ r.ImagesLawful ∧ r.RequestsLawful ∧ r.MarksLawful ∧ r.faults.Law ∧
    r.notices.Law ∧ r.LineDrivenLawfully ∧ r.SurveyLawful ∧ r.host.Law ∧ r.TransmitterBusy)

/-- Legal rosters, one record an entry, and the miss count law of R28, in every step. -/
def Obligations.StationRecordsStayLawful : Prop :=
  ∀ s t : State, s.StationsLawful → step s = .next t → t.StationsLawful

/-- One image an entry, of its entry's widths, NONE exactly while never published FRESH, in every step. -/
def Obligations.ImagesStayLawful : Prop :=
  ∀ s t : State, s.ImagesLawful → step s = .next t → t.ImagesLawful

/-- The bounds of R116, and an entry in the committed roster for the station of every QUEUED or AWAITING
record, in every step. -/
def Obligations.TransactionBoundsStay : Prop :=
  ∀ s t : State, s.RequestsLawful → step s = .next t → t.RequestsLawful

/-- A mark that is set belongs to a polled station, and the marks stay in ascending order, in every step. -/
def Obligations.MarksStayOnPolledStations : Prop :=
  ∀ s t : State, s.MarksLawful → step s = .next t → t.MarksLawful

/-- At most 12 fault entries, none twice, and FLT shows an active one, in every step. -/
def Obligations.FaultListStaysLawful : Prop :=
  ∀ s t : State, s.faults.Law → step s = .next t → t.faults.Law

/-- At most 16 notices, none of one matter twice, credit at most 255, and ATN shows a waiting notice,
in every step. -/
def Obligations.NoticeQueueStaysLawful : Prop :=
  ∀ s t : State, s.notices.Law → step s = .next t → t.notices.Law

/-- The line is driven only where R46 allows, a sweep's exchange in flight standing in the phase that chose
it, in every step. That LDE is asserted exactly in SENDING, up to the last echo, is the model's choice
(log 38). -/
def Obligations.LineStaysLawfullyDriven : Prop :=
  ∀ s t : State, s.LineDrivenLawfully → step s = .next t → t.LineDrivenLawfully

/-- The survey list and counts stay those of R151, with the line's laws (and their choice for LDE, log 38), in
every step. -/
def Obligations.SurveyStaysLawful : Prop :=
  ∀ s t : State, s.SurveyLawful → step s = .next t → t.SurveyLawful

/-- The request buffer, overflow list and receiver keep to R174 and R176, in every step. -/
def Obligations.HostPortStaysLawful : Prop :=
  ∀ s t : State, s.host.Law → step s = .next t → t.host.Law

/-- The transmitter never idles while it has a frame to send, and sends replies in acceptance order, in
every step. -/
def Obligations.TransmitterNeverIdlesWithAFrameReady : Prop :=
  ∀ s t : State, s.TransmitterBusy → step s = .next t → t.TransmitterBusy

/-- Latched outputs change only with a sweep's start or a commit's application: an image after a step
that raises neither number has the latched outputs it had before. -/
def Obligations.LatchedOutputsStandBetweenLatches : Prop :=
  ∀ s t : State, step s = .next t → t.sweep.number = s.sweep.number →
    t.roster.generation = s.roster.generation →
    ∀ j ∈ t.image.images, ∃ i ∈ s.image.images,
      j.address = i.address ∧ j.latched = i.latched ∧ j.latchedIn = i.latchedIn

/-! ## The host port -/

/-- A request's payload, laid out by the formats, reads back as that request (R177, R193). -/
def Obligations.RequestLayoutsReadBack : Prop :=
  ∀ (i : Instr) (tag kind : Byte), i.wellFormed = true → i.requestTag = some tag →
    i.requestKind = some kind → parseRequest tag kind i.requestPayload = .request i

/-- A request's whole frame, received by a hunting receiver, does what the request, as a command of its own
(log 4), does; only the instant of the last gap limit stays behind. Its bytes are fed at one instant
(log 5). -/
def Obligations.RequestFrameRunsItsRequest : Prop :=
  ∀ (i : Instr) (tag kind : Byte) (s : State), i.wellFormed = true → i.requestTag = some tag →
    i.requestKind = some kind → tag ≠ 0#8 → s.host.rx = .hunt → s.host.rxFrame = none →
    ∃ t, exec (.hostFrameReceived
        (OutFrame.bytes { tag := tag, kind := kind, payload := i.requestPayload })) s = .next t ∧
      exec i { s with host := { s.host with rxGapDue := s.now + 48000 } } = .next t

/-- What becomes of any request that its owner does not take: passed over by a receiver that is PAUSED
or CLOSED (log 4), answered BAD_ARG for tag 0, and OVERFLOW with 4 places held. A good frame, whole and
received by a hunting receiver (log 5), is answered so too, and then by the checks of R177: UNKNOWN_KIND,
counted, for a KIND not assigned; and for a payload that is no layout of its KIND BAD_LENGTH, but
BAD_ARG for a form code of READ_ROSTER, READ_INPUTS or READ_OUTPUTS that names no form (log 17). -/
def Obligations.RequestsTheHostPortDoesNotPassOn : Prop :=
  (∀ (i : Instr) (tag kind : Byte) (s : State), i.requestTag = some tag →
    i.requestKind = some kind →
    (s.host.rx = .paused ∨ s.host.rx = .closed → exec i s = .next s) ∧
    (s.host.rx ≠ .paused → s.host.rx ≠ .closed → s.host.places < 4 → tag = 0#8 →
      exec i s = .next (s.answered 0#8 kind .badArg [])) ∧
    (s.host.rx ≠ .paused → s.host.rx ≠ .closed → 4 ≤ s.host.places →
      exec i s = .next { s with host := s.host.overflowed tag kind })) ∧
  ∀ (tag kind : Byte) (payload : List Byte) (s : State), payload.length ≤ 250 →
    s.host.rx = .hunt → s.host.rxFrame = none →
    let frame := OutFrame.bytes { tag := tag, kind := kind, payload := payload }
    let base : State := { s with host := { s.host with rxGapDue := s.now + 48000 } }
    let counters := base.host.counters
    let assigned : List Nat :=
      [0x01, 0x02, 0x03, 0x04, 0x05, 0x10, 0x11, 0x12, 0x13, 0x14, 0x15, 0x16] ++
      [0x20, 0x21, 0x22, 0x23, 0x24, 0x25, 0x26, 0x30, 0x31, 0x32, 0x33] ++
      [0x40, 0x41, 0x42, 0x43, 0x44, 0x50, 0x51, 0x52, 0x53, 0x54, 0x55] ++
      [0x60, 0x61, 0x62, 0x63, 0x64, 0x65, 0x70, 0x71, 0x72, 0x73]
    let laidOut : Prop := ∃ i : Instr, i.wellFormed = true ∧ i.requestTag = some tag ∧
      i.requestKind = some kind ∧ i.requestPayload = payload
    let badForm : Prop :=
      (kind = 0x15#8 ∧ ∃ src form a, payload = [src, form, a] ∧ 2 ≤ form.toNat) ∨
      ((kind = 0x40#8 ∨ kind = 0x42#8) ∧ ∃ form rest, payload = form :: rest ∧ 2 ≤ form.toNat)
    (4 ≤ s.host.places →
      exec (.hostFrameReceived frame) s =
        .next { base with host := base.host.overflowed tag kind }) ∧
    (s.host.places < 4 → tag = 0#8 →
      exec (.hostFrameReceived frame) s = .next (base.answered 0#8 kind .badArg [])) ∧
    (s.host.places < 4 → tag ≠ 0#8 → kind.toNat ∉ assigned →
      exec (.hostFrameReceived frame) s = .next (State.answered tag kind .unknownKind []
        { base with host := { base.host with
            counters := { counters with unknown := satInc counters.unknown } } })) ∧
    (s.host.places < 4 → tag ≠ 0#8 → kind.toNat ∈ assigned → ¬ laidOut → ¬ badForm →
      exec (.hostFrameReceived frame) s = .next (base.answered tag kind .badLength [])) ∧
    (s.host.places < 4 → tag ≠ 0#8 → badForm →
      exec (.hostFrameReceived frame) s = .next (base.answered tag kind .badArg []))

/-- The receiver, byte by byte, and its gap limit (R174, R175); a frame that is complete and good is
RequestFrameRunsItsRequest's. The gap limit's expiry carries the clock to the limit (log 2), and has no
effect with no frame being taken (log 3). -/
def Obligations.ReceiverTakesBytes : Prop :=
  ∀ (b : Byte) (s : State),
    let after (h : HostPort) : Host.Outcome State Fault Refusal :=
      .next (State.pump { s with host := h })
    (s.host.rx = .hunt → exec (.hostByteReceived 0xC5#8 false) s =
      after (s.host.taking .length [0xC5#8] s.now)) ∧
    (∀ e, s.host.rx = .hunt → (b ≠ 0xC5#8 ∨ e = true) →
      exec (.hostByteReceived b e) s = after s.host) ∧
    (∀ e, s.host.rx = .paused ∨ s.host.rx = .closed →
      exec (.hostByteReceived b e) s = after s.host) ∧
    (s.host.rx.Framing → exec (.hostByteReceived b true) s = after s.host.discarded) ∧
    (∀ x, s.host.rx = .length → s.host.rxFrame = some [x] →
      exec (.hostByteReceived b false) s = after (s.host.taking .length [x, b] s.now)) ∧
    (∀ x lo, s.host.rx = .length → s.host.rxFrame = some [x, lo] →
      exec (.hostByteReceived b false) s =
        if 2 ≤ read2 lo b ∧ read2 lo b ≤ 252 then after (s.host.taking .body [x, lo, b] s.now)
        else after s.host.discarded) ∧
    (∀ x lo hi body, s.host.rx = .body → s.host.rxFrame = some (x :: lo :: hi :: body) →
      exec (.hostByteReceived b false) s =
        after (s.host.taking (if body.length + 1 = read2 lo hi then .check else .body)
          (x :: lo :: hi :: body ++ [b]) s.now)) ∧
    (∀ x lo hi body, s.host.rx = .check → s.host.rxFrame = some (x :: lo :: hi :: body) →
      body.length = read2 lo hi →
      exec (.hostByteReceived b false) s =
        after (s.host.taking .check (x :: lo :: hi :: body ++ [b]) s.now)) ∧
    (∀ x lo hi body c, s.host.rx = .check →
      s.host.rxFrame = some (x :: lo :: hi :: body ++ [c]) → body.length = read2 lo hi →
      [c, b] ≠ crcBytes (hostCrc (lo :: hi :: body)) →
      exec (.hostByteReceived b false) s = after s.host.discarded) ∧
    (s.host.rxFrame.isSome = true → exec .hostGapExpiry s =
      .next (State.pump { s with now := max s.now s.host.rxGapDue, host := s.host.discarded })) ∧
    (s.host.rxFrame = none → exec .hostGapExpiry s = .next s)

/-- The transmitter's choice (R168, R180), made at the end of a step (log 6), and what the last byte of a
frame sets off (R173, R176, R183): a place freed, a new rate, a reset, which keeps the queue of waiting
commands (log 33). TRANSMIT_COMPLETE with an idle transmitter has no effect (log 3). -/
def Obligations.TransmitterServesRepliesThenNotices : Prop :=
  ∀ s : State,
    (s.host.tx ≠ .idle → s.pump = s) ∧
    (∀ h rest, s.host.tx = .idle → s.host.held = h :: rest →
      s.pump = { s with host := { s.host with tx := .reply h.frame } }) ∧
    (∀ e, s.host.tx = .idle → s.host.held = [] → 0 < s.notices.credit → s.notices.head? = some e →
      s.pump = { s with
        host := { s.host with tx := .notice { tag := 0#8, kind := 0xC0#8,
                                              payload := e.bytes s.notices.dropped } }
        notices := { s.notices.removeHead with credit := s.notices.credit - 1 } }) ∧
    (s.host.tx = .idle → s.host.held = [] → (s.notices.credit = 0 ∨ s.notices.entries = []) →
      s.pump = s) ∧
    (s.host.tx = .idle → exec .transmitComplete s = .next s) ∧
    (∀ f, s.host.tx = .notice f →
      exec .transmitComplete s = .next (State.pump { s with host := { s.host with tx := .idle } })) ∧
    (∀ f h rest, s.host.tx = .reply f → s.host.held = h :: rest →
      (h.reply.after = .nothing → exec .transmitComplete s =
        .next (State.pump { s with host := s.host.freed h rest })) ∧
      (∀ b, h.reply.after = .setBaud b → exec .transmitComplete s =
        .next (State.pump { s with host := (s.host.freed h rest).rated b })) ∧
      (h.reply.after = .reset → exec .transmitComplete s =
        .next { State.reset with
          host := { State.reset.host with baud := s.host.baud, cause := .request },
          pending := s.pending })) ∧
    (∀ h : Held, h.frame.tag = h.tag ∧
      h.frame.kind = (if h.tag = 0#8 ∨ 0x80 ≤ h.kind.toNat then 0xFF#8 else h.kind + 0x80#8) ∧
      h.frame.payload = bytes1 h.reply.status.code ++ h.reply.fields)

/-- Power-on and pin reset: every block at its reset values, the rate from BAUDSEL, and the cause. The
queue of waiting commands stays (log 33). -/
def Obligations.ResetsRestoreEveryBlock : Prop :=
  ∀ (high : Bool) (s : State),
    let after (cause : ResetCause) : Host.Outcome State Fault Refusal :=
      .next { State.reset with
        host := { State.reset.host with baud := if high then .b1000000 else .b115200,
                                        cause := cause }
        pending := s.pending }
    exec (.powerOnReset high) s = after .power ∧ exec (.pinReset high) s = after .pin

/-- IDENTIFY: part code 0x2840, revision 2, reset cause, rate in force, capacities. READ_COUNTERS returns the
three groups and the sweep number, this frame counted; CLEAR_COUNTERS returns the same, then sets exactly
those counters and the records' to their starting values. -/
def Obligations.PartIdentifiedAndCountersReadAndCleared : Prop :=
  (∀ (c : LineCounters) (h : HostCounters) (t : SweepStats),
     c.bytes = [c.sent, c.good, c.timeouts, c.corrupt, c.stray, c.collisions, c.foreign].flatMap
       wordBytes ∧
     h.bytes = [h.good, h.bad, h.overflows, h.unknown].flatMap wordBytes ∧
     t.bytes = [t.last, t.minimum, t.maximum, t.completed, t.abandoned, t.overruns].flatMap
       wordBytes) ∧
  (∀ (tag : Byte) (s : State), s.Accepting tag →
     exec (.identify tag) s = .next (s.answered tag 0x01#8 .ok
       ([0x40#8, 0x28#8, 0x02#8] ++
         [match s.host.cause with
           | .power => 0#8
           | .pin => 1#8
           | .request => 2#8] ++
         bytes4 (match s.host.baud with
           | .b115200 => 115200
           | .b230400 => 230400
           | .b460800 => 460800
           | .b1000000 => 1000000
           | .b2000000 => 2000000
           | .b3000000 => 3000000) ++
         [40#8, 0x80#8, 0x01#8, 0x80#8, 0x01#8, 24#8, 12#8, 16#8]))) ∧
  (∀ (tag : Byte) (s : State), s.Accepting tag →
     let fields :=
       s.engine.counters.bytes ++
       HostCounters.bytes { s.host.counters with good := satInc s.host.counters.good } ++
       s.sweep.stats.bytes ++ wordBytes s.sweep.number
     exec (.readCounters tag) s = .next (s.answered tag 0x04#8 .ok fields) ∧
     exec (.clearCounters tag) s = .next
       { s with
         engine := { s.engine with counters :=
           { sent := 0, good := 0, timeouts := 0, corrupt := 0, stray := 0, collisions := 0,
             foreign := 0 } }
         sweep := { s.sweep with stats :=
           { last := 0, minimum := 0xFFFFFFFF, maximum := 0, completed := 0, abandoned := 0,
             overruns := 0 } }
         stations := s.stations.map fun t =>
           { t with attempts := 0, timeouts := 0, corrupt := 0, failed := 0, joins := 0,
                    probeFailures := 0 }
         host := HostPort.holding
           { s.host with counters := { good := 0, bad := 0, overflows := 0, unknown := 0 } } tag
           0x05#8 (Reply.of .ok fields) })

/-- SET_BAUD answers OK with one of the six rates, which its reply's last byte brings in, and BAD_ARG
otherwise; DEVICE_RESET closes the receiver, and its reply's last byte brings the reset. -/
def Obligations.RateAndResetFollowTheirReplies : Prop :=
  ∀ (tag : Byte) (s : State), s.Accepting tag →
    (∀ b : Baud,
      let reply : Reply := { status := .ok, fields := bytes4 b.rate, after := .setBaud b }
      exec (.setBaud tag b.rate) s = .next { s with host := s.host.replied tag 0x03#8 reply }) ∧
    (∀ rate, rate ∉ [115200, 230400, 460800, 1000000, 2000000, 3000000] →
      exec (.setBaud tag rate) s = .next (s.answered tag 0x03#8 .badArg [])) ∧
    (let h := if s.host.rxFrame.isSome then s.host.counted.discarded else s.host.counted
     let reply : Reply := { status := .ok, fields := [], after := .reset }
     exec (.deviceReset tag) s =
      .next { s with host := HostPort.holding { h with rx := .closed } tag 0x02#8 reply })

/-! ## Rosters -/

/-- STAGE_PUT: a legal entry takes its place in address order, replacing the one with its address; a
new one finds FULL at 40; any other argument is BAD_ARG. Which flag value says replaced is free
(log 9). -/
def Obligations.StagePutStoresTheEntryInAddressOrder : Prop :=
  ∀ (tag : Byte) (a : EntryArg) (s : State), s.Accepting tag →
    let old := s.roster.staged.entries
    (∀ e, StoresEntry a e → ((s.roster.staged.entry? e.address).isSome ∨ old.length < 40) →
      ∃ new : List RosterEntry,
        exec (.stagePut tag a) s = .next
          ({ s with roster := { s.roster with
              staged := { s.roster.staged with entries := new } } }.answered tag 0x10#8 .ok
            (flagByte ((s.roster.staged.entry? e.address).isSome == Config.replacedFlagIsOne) ++
              bytes1 new.length)) ∧
        (∀ b, new.find? (·.address == b) =
          if b = e.address then some e else old.find? (·.address == b)) ∧
        (Ascending (old.map (·.address)) → Ascending (new.map (·.address)))) ∧
    (∀ e, StoresEntry a e → s.roster.staged.entry? e.address = none → 40 ≤ old.length →
      exec (.stagePut tag a) s = .next (s.answered tag 0x10#8 .full [])) ∧
    ((∀ e, ¬ StoresEntry a e) → exec (.stagePut tag a) s = .next (s.answered tag 0x10#8 .badArg []))

/-- STAGE_REMOVE removes the entry of one address; STAGE_CLEAR empties the staged roster to its defaults;
STAGE_REVERT copies the committed roster. -/
def Obligations.StagedEntriesRemovedClearedReverted : Prop :=
  (∀ (tag : Byte) (a : Nat) (s : State), s.Accepting tag →
     let left := s.roster.staged.entries.filter (·.address != a)
     (¬ IsStation a → exec (.stageRemove tag a) s = .next (s.answered tag 0x11#8 .badArg [])) ∧
     (IsStation a → (∀ e ∈ s.roster.staged.entries, e.address ≠ a) →
       exec (.stageRemove tag a) s = .next (s.answered tag 0x11#8 .notFound [])) ∧
     (IsStation a → (∃ e ∈ s.roster.staged.entries, e.address = a) →
       exec (.stageRemove tag a) s = .next
         ({ s with roster := { s.roster with
             staged := { s.roster.staged with entries := left } } }.answered tag 0x11#8 .ok
           (bytes1 left.length)))) ∧
  (∀ (tag : Byte) (s : State), s.Accepting tag →
     exec (.stageClear tag) s = .next
       ({ s with roster := { s.roster with
           staged := { header := { speed := .mbit1, window := 300, repeats := 1, budget := 2,
                                   policy := .auto }
                       entries := [] } } }.answered tag 0x12#8 .ok []) ∧
     exec (.stageRevert tag) s = .next
       ({ s with roster := { s.roster with staged := s.roster.committed } }.answered tag 0x14#8 .ok []))

/-- STAGE_HEADER: the fields given are set, or the whole request is BAD_ARG; and the six bytes of a roster
header. -/
def Obligations.StageHeaderSetsTheFieldsGiven : Prop :=
  (∀ h : Header, h.bytes =
    [match h.speed with
      | .kbit500 => 0#8
      | .mbit1 => 1#8
      | .mbit2 => 2#8
      | .mbit4 => 3#8] ++
    bytes2 h.window ++ bytes1 h.repeats ++ bytes1 h.budget ++
    [match h.policy with
      | .auto => 0#8
      | .hold => 1#8
      | .halt => 2#8]) ∧
  ∀ (tag : Byte) (a : HeaderArg) (s : State), s.Accepting tag →
    (∀ h, SetsHeader a s.roster.staged.header h →
      exec (.stageHeader tag a) s = .next
        ({ s with roster := { s.roster with
            staged := { s.roster.staged with header := h } } }.answered tag 0x13#8 .ok h.bytes)) ∧
    ((∀ h, ¬ SetsHeader a s.roster.staged.header h) →
      exec (.stageHeader tag a) s = .next (s.answered tag 0x13#8 .badArg []))

/-- READ_ROSTER, both forms, on the three sources; nothing changes; and the bytes of a roster entry. The order
of the run form's fields is read from R13's list (log 13). -/
def Obligations.ReadRosterReturnsTheNamedRoster : Prop :=
  (∀ e : RosterEntry,
    let mode := match e.fallback with
      | .zero => 0
      | .hold => 1
      | .pattern _ => 2
    let pattern := match e.fallback with
      | .zero => []
      | .hold => []
      | .pattern p => p
    e.bytes = bytes1 e.address ++ bytes2 e.classCode ++ bytes1 e.inWidth ++ bytes1 e.outWidth ++
      bytes1 e.divisor ++ bytes1 e.missLimit ++
      bytes1 (mode + (if e.startDisabled then 4 else 0) + (if e.label.isSome then 8 else 0)) ++
      bytes1 pattern.length ++ pattern ++
      (match e.label with
        | none => []
        | some l => bytes1 l.length ++ l)) ∧
  ∀ (tag : Byte) (src a : Nat) (s : State), s.Accepting tag →
    let single (st : Status) (f : List Byte) : Prop :=
      exec (.readRosterSingle tag src a) s = .next (s.answered tag 0x15#8 st f)
    let run (st : Status) (f : List Byte) : Prop :=
      exec (.readRosterRun tag src a) s = .next (s.answered tag 0x15#8 st f)
    (¬ IsStation a ∨ 2 < src → single .badArg [] ∧ run .badArg []) ∧
    (IsStation a → src = 2 → s.roster.pendingCopy = none → single .empty [] ∧ run .empty []) ∧
    (∀ r, IsStation a →
      (src = 0 ∧ r = s.roster.staged ∨ src = 1 ∧ r = s.roster.committed ∨
        src = 2 ∧ s.roster.pendingCopy = some r) →
      let head := bytes1 src ++ wordBytes s.roster.generation ++ r.header.bytes
      let taken := runForm (247 - (head.length + 1))
        ((r.entries.filter (a ≤ ·.address)).map fun e => (e.address, e.bytes))
      (r.entry? a = none → single .notFound []) ∧
      (∀ e, r.entry? a = some e → single .ok (head ++ e.bytes)) ∧
      run .ok (head ++ bytes1 r.entries.length ++ taken.1 ++ bytes1 taken.2))

/-- A run form takes whole elements from the front, as many as the room holds, and names the first one
left out, or 0. -/
def Obligations.RunFormTakesAsManyWholeElementsAsFit : Prop :=
  ∀ (room : Nat) (l : List (Nat × List Byte)), ∃ k, k ≤ l.length ∧
    runForm room l =
      (bytes1 k ++ ((l.take k).map (·.2)).flatten,
        match l.drop k with
        | [] => 0
        | x :: _ => x.1) ∧
    ((l.take k).map (·.2)).flatten.length ≤ room ∧
    (k < l.length → room < ((l.take (k + 1)).map (·.2)).flatten.length)

/-- COMMIT that applies nothing: refused by the width sums with nothing changed, or kept as the pending
copy while the line is SWEEPING. -/
def Obligations.CommitRefusedOrDeferred : Prop :=
  ∀ (tag : Byte) (s : State), s.Accepting tag →
    let inSum := (s.roster.staged.entries.map (·.inWidth)).sum
    let outSum := (s.roster.staged.entries.map (·.outWidth)).sum
    let fields := bytes2 inSum ++ bytes2 outSum ++ bytes1 s.roster.staged.entries.length ++
      wordBytes s.roster.generation
    (384 < inSum ∨ 384 < outSum →
      exec (.commit tag) s = .next (s.answered tag 0x16#8 .invalidRoster fields)) ∧
    (inSum ≤ 384 → outSum ≤ 384 → s.sweep.line = .sweeping →
      exec (.commit tag) s = .next
        ({ s with roster := { s.roster with pendingCopy := some s.roster.staged } }.answered tag
          0x16#8 .pending (fields ++ flagByte s.roster.pendingCopy.isSome)))

/-- COMMIT outside SWEEPING applies the staged roster (`State.Applied`: records, images, marks, transactions,
faults and notices, in the order of log 27) and reports it. -/
def Obligations.CommitAppliesTheStagedRoster : Prop :=
  ∀ (tag : Byte) (s : State), s.Accepting tag → s.RecordsMatchRoster → s.LiveRecordsRostered →
    s.roster.staged.Fits → s.sweep.line ≠ .sweeping →
    ∃ t, exec (.commit tag) s = .next t ∧ s.Applied s.roster.staged t ∧
      t.host = s.host.replied tag 0x16#8 (Reply.of .ok
        (bytes2 s.roster.staged.inSum ++ bytes2 s.roster.staged.outSum ++
          bytes1 s.roster.staged.entries.length ++ wordBytes (s.roster.generation + 1)))

/-! ## The line, the sweep and the survey -/

/-- LINE_START is taken in OFF alone and starts 20 ms of listening, whose end brings READY; each change
raises LINE_STATE. The expiry carries the clock to the interval's end (log 2), and in another line state
has no effect (log 3). -/
def Obligations.LineStartListensAndQuietBringsReady : Prop :=
  ∀ (tag : Byte) (s : State),
    (s.Accepting tag → s.sweep.line = .off → s.sweep.closing = none →
      exec (.lineStart tag) s = .next
        ({ s with
          sweep := { s.sweep with line := .listening, quietDue := s.now + 480000 }
          notices := s.notices.take (.lineState .listening .off) }.answered tag 0x20#8 .ok [])) ∧
    (s.Accepting tag → s.sweep.line ≠ .off →
      exec (.lineStart tag) s = .next (s.answered tag 0x20#8 .wrongState [])) ∧
    (s.sweep.line = .listening →
      exec .quietIntervalExpiry s = .next (State.pump { s with
        now := max s.now s.sweep.quietDue
        sweep := { s.sweep with line := .ready }
        notices := s.notices.take (.lineState .ready .listening) })) ∧
    (s.sweep.line ≠ .listening → exec .quietIntervalExpiry s = .next s)

/-- LINE_STOP by line state: refused in OFF; OFF at once from LISTENING, with the engine IDLE and nothing held
(log 26), and from HALTED(CONTENTION), whose fault turns inactive: every AWAITING record ends in its place
with LINE_DOWN, QUEUED and DONE ones stay, and the REQUEST_DONE notices precede LINE_STATE; SAFE handed
over from READY, HALTED(POLICY), WAIT and between attempts; held back while an attempt runs. -/
def Obligations.LineStopClosesTheLine : Prop :=
  ∀ (tag : Byte) (s : State), s.Accepting tag →
    let reply := Reply.of .ok (bytes1 s.sweep.line.code ++ bytes1 s.sweep.phase.code)
    let host := s.host.replied tag 0x21#8 reply
    let toOff : Closing := { target := .off, byHalt := false }
    (s.sweep.line = .off →
      exec (.lineStop tag) s = .next (s.answered tag 0x21#8 .wrongState [])) ∧
    (∀ c, s.sweep.line ≠ .off → s.sweep.closing = some c →
      exec (.lineStop tag) s = .next { s with
        sweep := { s.sweep with closing := some { c with target := .off } }, host := host }) ∧
    (s.sweep.closing = none → (s.sweep.line = .listening ∨ s.sweep.line = .halted .contention) →
      ∃ t, exec (.lineStop tag) s = .next t ∧ t.host = host ∧ t.sweep.line = .off ∧
        t.sweep.closing = none ∧ t.sweep.stop = false ∧ t.sweep.phase = .idle ∧
        t.sweep.pacing = none ∧ t.engine.state = .idle ∧ t.engine.exchange = none ∧
        t.engine.lde = false ∧ (∀ u ∈ t.requests.records, u.isAwaiting = false) ∧
        (s.sweep.line = .halted .contention →
          ∀ e ∈ t.faults.entries, e.address = 0 → e.code = .contention → e.active = false) ∧
        t.stations = s.stations ∧ t.roster = s.roster ∧ t.image = s.image ∧ t.survey = s.survey ∧
        t = { s.afterOff with host := host } ∧
        t.notices = NoticeQueue.take (.lineState .off s.sweep.line)
          ((s.requests.records.filter (·.state == .awaiting)).foldl
            (fun q u => q.take (.requestDone u.id .lineDown u.address none)) s.notices) ∧
        ((s.requests.records.map (·.id)).Nodup →
          t.requests = { s.requests with records := s.requests.records.map fun u =>
            if u.state = .awaiting then
              { u with state := .done { code := .lineDown, detail := none, data := none,
                                                sweep := s.sweep.number } }
            else u })) ∧
    (s.sweep.closing = none → (s.sweep.line = .ready ∨ s.sweep.line = .halted .policy) →
      exec (.lineStop tag) s = .next { s.handSafe with
        sweep := { s.sweep with closing := some toOff }, host := host }) ∧
    (s.sweep.closing = none → s.sweep.line = .sweeping → s.sweep.phase ≠ .wait →
      s.engine.state.attempting = true →
      exec (.lineStop tag) s = .next { s with
        sweep := { s.sweep with closing := some toOff, cut := true }, host := host }) ∧
    (s.sweep.closing = none → s.sweep.line = .surveying → s.engine.state.attempting = true →
      exec (.lineStop tag) s = .next { s with
        sweep := { s.sweep with closing := some toOff }, host := host }) ∧
    (s.sweep.closing = none → s.sweep.line = .sweeping → s.sweep.phase = .wait →
      ∃ t, exec (.lineStop tag) s = .next t ∧ t.host = host ∧ t.sweep.line = .sweeping ∧
        t.sweep.closing = some toOff ∧ t.sweep.phase = .idle ∧
        t.engine.exchange = some safeExchange ∧ t.roster.pendingCopy = none ∧
        (∀ r, s.roster.pendingCopy = some r →
          t.roster.committed = r ∧ t.roster.generation = s.roster.generation + 1)) ∧
    (s.sweep.closing = none → s.sweep.line = .sweeping → s.sweep.phase ≠ .wait →
      s.engine.state.attempting = false →
      ∃ t, exec (.lineStop tag) s = .next t ∧ t.host = host ∧ t.sweep.line = .sweeping ∧
        t.sweep.closing = some toOff ∧ t.sweep.phase = .idle ∧
        t.engine.exchange = some safeExchange ∧ t.roster.pendingCopy = none ∧
        t.image.snapshotSweep = s.sweep.number ∧ t.image.snapshotCut = true ∧
        t.sweep.stats = { s.sweep.stats with abandoned := satInc s.sweep.stats.abandoned }) ∧
    (s.sweep.closing = none → s.sweep.line = .surveying → s.engine.state.attempting = false →
      ∃ t, exec (.lineStop tag) s = .next t ∧ t.host = host ∧ t.sweep.line = .surveying ∧
        t.sweep.closing = some toOff ∧ t.engine.exchange = some safeExchange ∧
        t.survey = { s.survey with status := .cut, current := none })

/-- START_SWEEP: the checks in R55's order; taken in READY it stores the plan and latches; taken in WAIT it
begins the new plan's sweep at once; taken in a sweep between attempts it cuts that sweep and begins;
each of these sends the first due station its exchange, a POLL with the outputs just latched and the
flipped toggle, or an IDENT. Taken while an attempt runs it marks the sweep for cutting. It is answered
with the plan, its value coded by presence (log 12), and the number, in SWEEPING as in READY (log 37). -/
def Obligations.StartSweepTakesThePlan : Prop :=
  ∀ (tag : Byte) (mode value : Nat) (s : State), s.Accepting tag →
    let refused (st : Status) : Prop :=
      exec (.startSweep tag mode value) s = .next (s.answered tag 0x22#8 st [])
    let number := s.sweep.number + 1
    let sweeping (p : Plan) : Prop :=
      s.sweep.line = .sweeping ∧ s.sweep.closing = none ∧ s.roster.committed.entries ≠ [] ∧
      PlanNamed mode value p
    let latched (m : ImageStore) : ImageStore := { m with images := m.images.map fun i =>
      { i with latched := i.staged, latchedIn := some number, delivered := false } }
    let begun (p : Plan) (e : RosterEntry) (r : Station) (t : State) : Prop :=
      t.sweep.line = .sweeping ∧ t.sweep.number = number ∧ t.sweep.phase = .cyclic ∧
      t.sweep.remaining = (if p = .counted value then value else 0) ∧
      t.sweep.pacing = (if p = .paced value then some { base := s.now, count := 1 } else none) ∧
      t.engine.exchange = some
        { chooser := .cyclic, address := e.address
          kind := if r.state = .pending then .ident else .poll
          payload := if r.state = .pending then []
            else (s.image? e.address).elim [] (·.staged)
          toggle := if r.state = .pending then false else !r.toggle
          limit := 1 + s.roster.committed.header.repeats, made := 0, lastFailure := none } ∧
      t.station? e.address =
        some (if r.state = .pending then r else { r with toggle := !r.toggle })
    ((∀ p, ¬ PlanNamed mode value p) → refused .badArg) ∧
    (∀ p, PlanNamed mode value p →
      ((s.sweep.line ≠ .ready ∧ s.sweep.line ≠ .sweeping ∨ s.sweep.closing ≠ none) →
        refused .wrongState) ∧
      ((s.sweep.line = .ready ∨ s.sweep.line = .sweeping) → s.sweep.closing = none →
        (s.roster.committed.entries = [] → refused .invalidRoster) ∧
        (s.roster.committed.entries ≠ [] →
          ∃ t, exec (.startSweep tag mode value) s = .next t ∧
            t.host = s.host.replied tag 0x22#8 (Reply.of .ok (p.bytes ++ wordBytes number)) ∧
            t.sweep.plan = p ∧ t.sweep.stop = false ∧
            (∀ e r, s.sweep.line = .ready → s.ServesNext number 0 e r →
              begun p e r t ∧ t.image = latched s.image ∧
                t.sweep.stats = s.sweep.stats ∧
                t.notices = s.notices.take (.lineState .sweeping .ready))))) ∧
    (∀ p, sweeping p → s.sweep.phase ≠ .wait → s.engine.state.attempting = true →
      ∃ t, exec (.startSweep tag mode value) s = .next t ∧
        t.sweep.number = s.sweep.number ∧ t.sweep.cut = true ∧ t.engine = s.engine ∧
        t.image = s.image ∧ t.stations = s.stations ∧
        t.sweep.remaining = (if p = .counted value then value else 0)) ∧
    (∀ p e r, sweeping p → s.sweep.phase = .wait →
      s.roster.pendingCopy = none → s.ServesNext number 0 e r →
      ∃ t, exec (.startSweep tag mode value) s = .next t ∧ begun p e r t ∧
        t.image = latched s.image ∧ t.sweep.stats = s.sweep.stats ∧ t.notices = s.notices) ∧
    (∀ p e r, sweeping p → s.sweep.phase ≠ .wait → s.engine.state.attempting = false →
      s.roster.pendingCopy = none → s.ServesNext number 0 e r →
      ∃ t, exec (.startSweep tag mode value) s = .next t ∧ begun p e r t ∧
        t.sweep.cut = false ∧
        t.image = latched (s.image.afterPublication s.sweep.number true) ∧
        t.sweep.stats = { s.sweep.stats with abandoned := satInc s.sweep.stats.abandoned } ∧
        t.notices = s.notices) ∧
    (∀ p c, sweeping p → s.roster.pendingCopy = some c →
      s.sweep.phase = .wait ∨ s.engine.state.attempting = false →
      ∃ t, exec (.startSweep tag mode value) s = .next t ∧
        t.roster = { s.roster with committed := c, generation := s.roster.generation + 1,
                                   pendingCopy := none } ∧
        (c.entries = [] → t.sweep.line = .ready))

/-- STOP_SWEEP lets the sweep complete, or in WAIT applies the pending copy and goes to READY. The end of a
wait carries the clock to the scheduled start (log 2), applies the pending copy, and latches the next
sweep and goes on to its first exchange, or goes to READY on an empty roster; with no wait it has no
effect (log 3). What is raised is handed over at the end of the step (log 6); the copy is applied as
`State.Applied` states (log 27). -/
def Obligations.StopSweepAndTheEndOfAWait : Prop :=
  ∀ (tag : Byte) (s : State),
    (s.Accepting tag → (s.sweep.line ≠ .sweeping ∨ s.sweep.closing ≠ none) →
      exec (.stopSweep tag) s = .next (s.answered tag 0x23#8 .wrongState [])) ∧
    (s.Accepting tag → s.sweep.line = .sweeping → s.sweep.closing = none → s.sweep.phase ≠ .wait →
      exec (.stopSweep tag) s = .next
        ({ s with sweep := { s.sweep with stop := true } }.answered tag 0x23#8 .ok
          (wordBytes s.sweep.number))) ∧
    (s.Accepting tag → s.sweep.line = .sweeping → s.sweep.closing = none → s.sweep.phase = .wait →
      ∃ t, exec (.stopSweep tag) s = .next t ∧
        t.host = s.host.replied tag 0x23#8 (Reply.of .ok (wordBytes s.sweep.number)) ∧
        t.sweep.line = .ready ∧ t.sweep.phase = .idle ∧ t.sweep.stop = false ∧
        t.sweep.pacing = none ∧ t.sweep.number = s.sweep.number ∧ t.engine = s.engine ∧
        t.roster.pendingCopy = none ∧
        (∀ r, s.roster.pendingCopy = some r →
          t.roster.committed = r ∧ t.roster.generation = s.roster.generation + 1) ∧
        (s.roster.pendingCopy = none → t.roster = s.roster ∧ t.stations = s.stations ∧
          t.image = s.image)) ∧
    (∀ p q, s.sweep.phase = .wait → s.sweep.plan = .paced p → s.sweep.pacing = some q →
      s.RecordsMatchRoster → s.LiveRecordsRostered →
      let later : State := { s with now := max s.now (q.base + q.count * (p * 2400)) }
      ∃ u : State, later.CopyApplied u ∧
        (u.roster.committed.entries = [] →
          exec .pacedWaitEnd s = .next (State.pump u.afterReady)) ∧
        (u.roster.committed.entries ≠ [] →
          exec .pacedWaitEnd s = .next (State.pump (State.runCyclic u.afterLatch)) ∧
          ∀ e r, u.ServesNext (s.sweep.number + 1) 0 e r →
            ∃ t, exec .pacedWaitEnd s = .next t ∧ t.now = later.now ∧
              t.sweep.number = s.sweep.number + 1 ∧ t.sweep.phase = .cyclic ∧
              (∃ x, t.engine.exchange = some x ∧ x.address = e.address) ∧
              t.sweep.startedAt = t.now ∧ t.image = u.afterLatch.image)) ∧
    (s.sweep.phase ≠ .wait → exec .pacedWaitEnd s = .next s)

/-- The bytes of a plan; READ_SWEEP_STATUS and READ_SURVEY report their fields and change nothing. How the time
left in WAIT is rounded is free (log 11); plan value and remaining are coded by presence (log 12); the
comparison lists and their flag stand last (log 34); a survey entry's widths and revision take one byte
each (log 35). -/
def Obligations.SweepStatusAndSurveyRead : Prop :=
  (∀ p : Plan, p.bytes = match p with
    | .counted n => [0#8, 1#8] ++ bytes2 n
    | .free => [1#8, 0#8]
    | .paced n => [2#8, 1#8] ++ bytes2 n) ∧
  ∀ (tag : Byte) (start compare : Nat) (s : State), s.Accepting tag →
    exec (.readSweepStatus tag) s = .next (s.answered tag 0x24#8 .ok
      (bytes1 s.sweep.line.code ++ bytes1 s.sweep.line.causeCode ++
        bytes1 (closingCode s.sweep.closing) ++ s.sweep.plan.bytes ++
        opt2 (match s.sweep.plan with
          | .counted _ => some s.sweep.remaining
          | .free => none
          | .paced _ => none) ++
        wordBytes s.sweep.number ++ bytes1 s.sweep.phase.code ++ flagByte s.sweep.stop ++
        flagByte s.roster.pendingCopy.isSome ++ bytes1 s.sweep.probe ++
        opt4 (if s.sweep.phase = .wait then s.sweep.waitDue.map (usLeft s.now) else none) ++
        s.sweep.stats.bytes)) ∧
    (¬ IsStation start ∨ 1 < compare →
      exec (.readSurvey tag start compare) s = .next (s.answered tag 0x26#8 .badArg [])) ∧
    (IsStation start → compare ≤ 1 →
      let entry (f : SurveyEntry) : List Byte :=
        bytes1 f.address ++ bytes2 f.identity.classCode ++ bytes1 f.identity.inWidth ++
        bytes1 f.identity.outWidth ++ bytes1 f.identity.revision
      let roster := s.roster.committed
      let absent := (roster.entries.map (·.address)).filter fun a =>
        decide (a ≤ s.survey.done) && !(s.survey.found.any (·.address == a))
      let unexpected := (s.survey.found.map (·.address)).filter fun a => (roster.entry? a).isNone
      let differing := (s.survey.found.filter fun f => (roster.entry? f.address).elim false fun e =>
        !((e.classCode == 0 || f.identity.classCode == e.classCode) &&
          f.identity.inWidth == e.inWidth && f.identity.outWidth == e.outWidth)).map (·.address)
      let lists := listBytes (absent.map bytes1) ++ listBytes (unexpected.map bytes1) ++
        listBytes (differing.map bytes1) ++
        flagByte (s.survey.overflow || decide (s.survey.done < 119))
      let tail := if compare = 1 then lists else []
      let head := bytes1 s.survey.status.code ++ optByte s.survey.current ++
        bytes1 s.survey.done ++ bytes1 s.survey.foundTotal ++ bytes1 s.survey.noisy ++
        flagByte s.survey.overflow ++ opt4 (s.survey.startGeneration.map BitVec.toNat) ++
        wordBytes s.roster.generation ++ bytes1 s.survey.found.length
      let run := runForm (247 - (head.length + tail.length))
        ((s.survey.found.filter (start ≤ ·.address)).map fun f => (f.address, entry f))
      exec (.readSurvey tag start compare) s = .next (s.answered tag 0x26#8 .ok
        (head ++ run.1 ++ bytes1 run.2 ++ tail)))

/-- START_SURVEY: taken in READY alone; the survey starts afresh and the IDENT to address 1 is handed
over, and sent at once by an idle engine. Each IDENT's outcome, an IDREPLY, a timeout or a corrupt
reply, is counted and listed, and the next address follows, or after 119 SURVEY_DONE and READY. While a
LINE_STOP's closing is in progress the outcome of a good reply alone is handled, and the survey is CUT
and SAFE held. An expiry carries the clock to the limit (log 2), REPLY_FRAME_END feeds its characters at
one instant (log 5), and SURVEY_DONE is handed over at the end of the step (log 6). -/
def Obligations.SurveyWalksTheAddresses : Prop :=
  (∀ (tag : Byte) (s : State), s.Accepting tag →
    let ident : Exchange :=
      { chooser := .survey, kind := .ident, address := 1, payload := [], toggle := false, limit := 1,
        made := 0, lastFailure := none }
    let engine : LinkEngine :=
      if s.engine.state = .idle ∧ s.engine.frame = none then
        { s.engine with
          state := .sending, exchange := some ident, lde := true
          attempt := some { toggle := false, window := s.roster.committed.header.window,
                            echoed := 0, charTime := s.charCycles }
          due := s.now + 6 * s.charCycles }
      else { s.engine with exchange := some ident }
    (s.sweep.line ≠ .ready ∨ s.sweep.closing ≠ none →
      exec (.startSurvey tag) s = .next (s.answered tag 0x25#8 .wrongState [])) ∧
    (s.sweep.line = .ready → s.sweep.closing = none →
      exec (.startSurvey tag) s = .next ({ s with
        sweep := { s.sweep with line := .surveying }
        notices := s.notices.take (.lineState .surveying .ready)
        survey := { status := .running, found := [], overflow := false, done := 0, foundTotal := 0,
                    noisy := 0, current := some 1, startGeneration := some s.roster.generation }
        engine := engine }.answered tag 0x25#8 .ok (wordBytes s.roster.generation)))) ∧
  ∀ (s : State) (x : Exchange), x.chooser = .survey → x.kind = .ident → x.limit = 1 →
    IsStation x.address → s.sweep.line = .surveying → s.sweep.cut = false →
    let next : Option Exchange :=
      if x.address < 119 then
        some { chooser := .survey, kind := .ident, address := x.address + 1, payload := [],
               toggle := false, limit := 1, made := 0, lastFailure := none }
      else none
    let safe : Exchange :=
      { chooser := .safe, kind := .safe, address := 127, payload := [], toggle := false, limit := 1,
        made := 0, lastFailure := none }
    let surveyDone (st : SurveyStatus) (u : SurveyUnit) : NoticeQueue :=
      s.notices.take (.surveyDone st u.done u.foundTotal u.noisy u.overflow u.found.length)
    let ended (k : Option FailureKind) (endedAt now : Nat) (held : Option Exchange) : State :=
      { s with now := now, engine := s.engine.afterAttempt k (endedAt + 4 * s.charCycles) held }
    let goesOn (c : Instr) (k : Option FailureKind) (endedAt now : Nat) (u : SurveyUnit) : Prop :=
      if x.address < 119 then
        exec c s = .next (State.pump { ended k endedAt now next with
          survey := { u with current := some (x.address + 1) } })
      else
        exec c s = .next (State.pump { ended k endedAt now next with
          survey := { u with status := .done, current := none }
          sweep := { s.sweep with line := .ready }
          notices := (surveyDone .done u).take (.lineState .ready .surveying) })
    let isCut (c : Instr) (k : Option FailureKind) (endedAt now : Nat) (u : SurveyUnit) : Prop :=
      exec c s = .next (State.pump { ended k endedAt now (some safe) with
        survey := { u with status := .cut, current := none }, notices := surveyDone .cut u })
    (∀ c k endedAt now, s.AttemptFails x c k endedAt now →
      (s.sweep.closing = none → goesOn c (some k) endedAt now
        { s.survey with
          done := x.address
          noisy := if k = .corrupt then s.survey.noisy + 1 else s.survey.noisy }) ∧
      (s.sweep.closing ≠ none → isCut c (some k) endedAt now s.survey)) ∧
    (∀ (rest : List FieldChar) (control : Nat) (lo hi inW outW rev : Byte),
      control = 144 ∨ control = 152 → inW.toNat ≤ 16 → outW.toNat ≤ 16 →
      s.ReplyComes x rest x.address control [lo, hi, inW, outW, rev] →
      let entry : SurveyEntry :=
        { address := x.address
          identity := { classCode := lo.toNat + 256 * hi.toNat, inWidth := inW.toNat,
                        outWidth := outW.toNat, revision := rev.toNat } }
      let counted := { s.survey with done := x.address, foundTotal := s.survey.foundTotal + 1 }
      let listed : SurveyUnit :=
        if s.survey.found.length < 40 then { counted with found := s.survey.found ++ [entry] }
        else { counted with overflow := true }
      (s.sweep.closing = none → goesOn (.replyFrameEnd rest) none s.now s.now listed) ∧
      (s.sweep.closing ≠ none → isCut (.replyFrameEnd rest) none s.now s.now listed))

/-! ## Stations -/

/-- DISABLE_STATION, whole: the record; on a departure from ONLINE or FALTERING the AWAITING record of the
station ended in its place with STATION_DOWN and no detail and no data, every other record, mark and
count kept; the faults of the station inactive, the overflow count kept, FLT following the entries; the
REQUEST_DONE notices and then STATION_STATE; and the reply. The fault list's law and the uniqueness of
transaction ids, which the last clause assumes, are invariants of their own (`FaultListStaysLawful`,
`TransactionBoundsStay`). -/
def Obligations.DisableStationSetsTheRecordAside : Prop :=
  ∀ (tag : Byte) (a : Nat) (s : State), s.Accepting tag →
    (¬ IsStation a → exec (.disableStation tag a) s = .next (s.answered tag 0x30#8 .badArg [])) ∧
    (IsStation a → s.station? a = none →
      exec (.disableStation tag a) s = .next (s.answered tag 0x30#8 .noStation [])) ∧
    (∀ r, IsStation a → s.station? a = some r → r.state = .disabled →
      exec (.disableStation tag a) s = .next (s.answered tag 0x30#8 .ok [6#8, 6#8])) ∧
    (∀ r, IsStation a → s.station? a = some r → r.state ≠ .disabled →
      ∃ t, exec (.disableStation tag a) s = .next t ∧
        t.host = s.host.replied tag 0x30#8 (Reply.of .ok (bytes1 r.state.code ++ [6#8])) ∧
        t.station? a = some
          { r with state := .disabled, miss := 0, flags := { r.flags with alarm := false } } ∧
        (∀ b, b ≠ a → t.station? b = s.station? b) ∧
        t.faults.entries = s.faults.entries.map (fun e =>
          if e.address = a ∧ (e.code = .noAnswer ∨ e.code = .mismatch ∨ e.code = .stationAlarm) then
            { e with active := false } else e) ∧
        (r.state = .online ∨ r.state = .faltering →
          a ∉ t.requests.marks ∧
          ∀ u ∈ t.requests.records, u.address = a → u.isAwaiting = false) ∧
        (r.state ≠ .online → r.state ≠ .faltering → t.requests = s.requests) ∧
        ((∀ u ∈ s.requests.records, u.address = a → u.isAwaiting = false) →
          t.notices = s.notices.take (.stationState a .disabled (some r.state) 0)) ∧
        t.roster = s.roster ∧ t.sweep = s.sweep ∧ t.engine = s.engine ∧ t.image = s.image ∧
        t.survey = s.survey ∧ t.faults.capture = s.faults.capture) ∧
    (∀ r, IsStation a → s.station? a = some r → r.state ≠ .disabled → s.faults.Law →
      (s.requests.records.map (·.id)).Nodup →
      let polled : Prop := r.state = .online ∨ r.state = .faltering
      let ends (u : Txn) : Prop := polled ∧ u.address = a ∧ u.state = .awaiting
      let entries := s.faults.entries.map fun e =>
        if e.address = a ∧ (e.code = .noAnswer ∨ e.code = .mismatch ∨ e.code = .stationAlarm) then
          { e with active := false } else e
      exec (.disableStation tag a) s = .next
        ({ s with
          stations := s.stationsWith a fun t =>
            { t with state := .disabled, miss := 0, flags := { t.flags with alarm := false } }
          requests := { s.requests with
            records := s.requests.records.map fun u =>
              if ends u then
                { u with state := .done { code := .stationDown, detail := none, data := none,
                                                sweep := s.sweep.number } }
              else u
            marks := if polled then s.requests.marks.filter (· != a) else s.requests.marks }
          faults := { s.faults with entries := entries, flt := entries.any (·.active) }
          notices := NoticeQueue.take (.stationState a .disabled (some r.state) 0)
            ((s.requests.records.filter fun u => decide (ends u)).foldl
              (fun q (u : Txn) => q.take (.requestDone u.id .stationDown a none)) s.notices)
          }.answered tag 0x30#8 .ok (bytes1 r.state.code ++ [6#8])))

/-- ENABLE_STATION takes a DISABLED station to PENDING; READMIT takes a PARKED one to LOST and a
MISMATCHED one to PENDING, ending its fault; both refuse every other state. -/
def Obligations.EnableAndReadmitReleaseAStation : Prop :=
  ∀ (tag : Byte) (a : Nat) (s : State), s.Accepting tag →
    (¬ IsStation a → exec (.enableStation tag a) s = .next (s.answered tag 0x31#8 .badArg []) ∧
      exec (.readmit tag a) s = .next (s.answered tag 0x32#8 .badArg [])) ∧
    (IsStation a → s.station? a = none →
      exec (.enableStation tag a) s = .next (s.answered tag 0x31#8 .noStation []) ∧
      exec (.readmit tag a) s = .next (s.answered tag 0x32#8 .noStation [])) ∧
    (∀ r, IsStation a → s.station? a = some r →
      let withRecord (f : Station → Station) : List Station :=
        s.stations.map fun t => if t.address = a then f t else t
      (r.state = .disabled → exec (.enableStation tag a) s = .next
        ({ s with
          stations := withRecord fun t => { t with state := .pending }
          notices := s.notices.take (.stationState a .pending (some .disabled) r.miss) }.answered
          tag 0x31#8 .ok [6#8, 0#8])) ∧
      (r.state ≠ .disabled →
        exec (.enableStation tag a) s = .next (s.answered tag 0x31#8 .wrongState [])) ∧
      (r.state = .parked → exec (.readmit tag a) s = .next
        ({ s with
          stations := withRecord fun t => { t with state := .lost }
          faults := s.faults.mark a .noAnswer
          notices := s.notices.take (.stationState a .lost (some .parked) r.miss) }.answered
          tag 0x32#8 .ok [4#8, 3#8])) ∧
      (r.state = .mismatched → exec (.readmit tag a) s = .next
        ({ s with
          stations := withRecord fun t => { t with state := .pending, miss := 0 }
          faults := s.faults.mark a .mismatch
          notices := s.notices.take (.stationState a .pending (some .mismatched) 0) }.answered
          tag 0x32#8 .ok [5#8, 0#8])) ∧
      (r.state ≠ .parked → r.state ≠ .mismatched →
        exec (.readmit tag a) s = .next (s.answered tag 0x32#8 .wrongState [])))

/-- READ_STATION returns the record with its context in 40 bytes and changes nothing. -/
def Obligations.ReadStationReturnsTheRecord : Prop :=
  ∀ (tag : Byte) (a : Nat) (s : State), s.Accepting tag →
    (¬ IsStation a → exec (.readStation tag a) s = .next (s.answered tag 0x33#8 .badArg [])) ∧
    (IsStation a → s.station? a = none →
      exec (.readStation tag a) s = .next (s.answered tag 0x33#8 .noStation [])) ∧
    (∀ r e, IsStation a → s.station? a = some r → s.entry? a = some e →
      let mine := s.requests.records.filter (·.address == a)
      let identity := match r.identity with
        | none => List.replicate 6 0#8
        | some i =>
          bytes1 (if (e.classCode = 0 ∨ i.classCode = e.classCode) ∧ i.inWidth = e.inWidth ∧
            i.outWidth = e.outWidth then 1 else 2) ++ bytes2 i.classCode ++ bytes1 i.inWidth ++
          bytes1 i.outWidth ++ bytes1 i.revision
      let fields := bytes1 a ++ bytes1 r.state.code ++ bytes1 r.miss ++ bytes1 e.missLimit ++
        flagByte r.toggle ++ bytes1 r.flags.toNat ++ identity ++ wordBytes r.attempts ++
        wordBytes r.timeouts ++ wordBytes r.corrupt ++ wordBytes r.failed ++ wordBytes r.joins ++
        wordBytes r.probeFailures ++ flagByte (s.requests.marks.contains a) ++
        bytes1 (mine.filter (·.state == .queued)).length ++
        bytes1 (mine.filter (·.state == .awaiting)).length ++
        (if s.sweep.line = .sweeping then
          flagByte (s.sweep.number.toNat % e.divisor == a % e.divisor) else [0xFF#8])
      fields.length = 40 ∧ exec (.readStation tag a) s = .next (s.answered tag 0x33#8 .ok fields))

/-! ## The process image and the lease -/

/-- READ_INPUTS and READ_OUTPUTS, both forms: the first failing check, else the fields of every station
named, and nothing changes. Which flag value says CUT is free (log 10); the time remaining is rounded up
and at least 1 (log 11); the run forms' fields stand in the order of their rules (log 13); a READ_OUTPUTS
list reply holds as many whole stations, from the first named on, as 250 bytes do (log 14). -/
def Obligations.ImagesRead : Prop :=
  ∀ (tag : Byte) (l : List Nat) (a : Nat) (s : State), s.Accepting tag →
    let inputs (i : Image) : List Byte :=
      bytes1 i.address ++ bytes1 i.validity.code ++ opt4 (i.lastFresh.map BitVec.toNat) ++
      optRun i.published
    let outputs (i : Image) : List Byte :=
      bytes1 i.address ++ runBytes i.staged ++ bytes1 i.origin.code ++ runBytes i.latched ++
      opt4 (i.latchedIn.map BitVec.toNat)
    let header := wordBytes s.image.snapshotSweep ++
      flagByte (s.image.snapshotCut == Config.cutFlagIsOne) ++ wordBytes s.roster.generation
    let lease := match s.image.lease with
      | .off => [0#8, 0#8, 0#8]
      | .active p due =>
        [1#8, 1#8] ++ bytes2 p ++ [1#8] ++ bytes2 (max 1 ((due - s.now + 23999) / 24000))
      | .expired p => [2#8, 1#8] ++ bytes2 p ++ [0#8]
    let named (n : Nat) : Prop :=
      1 ≤ l.length ∧ l.length ≤ n ∧ (∀ b ∈ l, IsStation b) ∧ l.Nodup
    (¬ named 8 → exec (.readInputsList tag l) s = .next (s.answered tag 0x40#8 .badArg [])) ∧
    (¬ named 6 → exec (.readOutputsList tag l) s = .next (s.answered tag 0x42#8 .badArg [])) ∧
    ((∃ b ∈ l, s.image? b = none) →
      (named 8 → exec (.readInputsList tag l) s = .next (s.answered tag 0x40#8 .noStation [])) ∧
      (named 6 → exec (.readOutputsList tag l) s = .next (s.answered tag 0x42#8 .noStation []))) ∧
    (∀ images : List Image, l.map s.image? = images.map some →
      (named 8 → exec (.readInputsList tag l) s =
        .next (s.answered tag 0x40#8 .ok (header ++ listBytes (images.map inputs)))) ∧
      (named 6 → ∃ k, k ≤ images.length ∧
        (let fields (k : Nat) : List Byte := listBytes ((images.take k).map outputs) ++ lease
         exec (.readOutputsList tag l) s = .next (s.answered tag 0x42#8 .ok (fields k)) ∧
         1 + (fields k).length ≤ 250 ∧
         (k < images.length → 250 < 1 + (fields (k + 1)).length)))) ∧
    (¬ IsStation a →
      exec (.readInputsRun tag a) s = .next (s.answered tag 0x40#8 .badArg []) ∧
      exec (.readOutputsRun tag a) s = .next (s.answered tag 0x42#8 .badArg [])) ∧
    (IsStation a →
      let above := s.image.images.filter (a ≤ ·.address)
      let rest := header ++ bytes1 s.image.images.length
      let ins := runForm (247 - rest.length) (above.map fun i => (i.address, inputs i))
      let outs := runForm (247 - lease.length) (above.map fun i => (i.address, outputs i))
      exec (.readInputsRun tag a) s =
        .next (s.answered tag 0x40#8 .ok (ins.1 ++ rest ++ bytes1 ins.2)) ∧
      exec (.readOutputsRun tag a) s =
        .next (s.answered tag 0x42#8 .ok (outs.1 ++ bytes1 outs.2 ++ lease)))

/-- WRITE_OUTPUTS: checked whole in R100's order; taken whole, it sets the staged outputs named and no
other field of an image, and renews or restores the lease, whose time remaining is at least 1 (log 11). -/
def Obligations.WriteOutputsStagesItsItems : Prop :=
  ∀ (tag : Byte) (items : List OutputItem) (s : State), s.Accepting tag →
    let formed : Prop :=
      items ≠ [] ∧ (∀ i ∈ items, IsStation i.address) ∧ (items.map (·.address)).Nodup
    let fits : Prop :=
      ∀ i ∈ items, ∃ e, s.entry? i.address = some e ∧ i.bytes.length = e.outWidth
    let refused (st : Status) : Prop :=
      exec (.writeOutputs tag items) s = .next (s.answered tag 0x41#8 st [])
    (¬ formed → refused .badArg) ∧
    (formed → (∃ i ∈ items, s.image? i.address = none) → refused .noStation) ∧
    (formed → (∀ i ∈ items, s.image? i.address ≠ none) → ¬ fits → refused .badArg) ∧
    (formed → (∀ i ∈ items, s.image? i.address ≠ none) → fits →
      ∃ t, exec (.writeOutputs tag items) s = .next t ∧
        (∀ i ∈ items, ∀ m, s.image? i.address = some m →
          t.image? i.address = some { m with staged := i.bytes, origin := .write }) ∧
        (∀ a, (∀ i ∈ items, i.address ≠ a) → t.image? a = s.image? a) ∧
        t.image.lease = (match s.image.lease with
          | .off => .off
          | .active p _ => .active p (s.now + p * 24000)
          | .expired p => .active p (s.now + p * 24000)) ∧
        t.faults = (match s.image.lease with
          | .off => s.faults
          | .active _ _ => s.faults
          | .expired _ => s.faults.mark 0 .leaseExpired) ∧
        t.host = s.host.replied tag 0x41#8 (Reply.of .ok (bytes1 items.length ++
          match s.image.lease with
          | .off => [0#8, 0#8]
          | .active p _ => [1#8, 1#8] ++ bytes2 (max 1 p)
          | .expired p => [1#8, 1#8] ++ bytes2 (max 1 p))) ∧
        t.image.snapshotSweep = s.image.snapshotSweep ∧ t.image.snapshotCut = s.image.snapshotCut ∧
        t.roster = s.roster ∧ t.stations = s.stations ∧ t.sweep = s.sweep ∧ t.engine = s.engine ∧
        t.requests = s.requests ∧ t.notices = s.notices ∧ t.survey = s.survey)

/-- SET_LEASE by the table of R108, and RENEW_LEASE, which an ACTIVE lease alone takes. -/
def Obligations.LeaseSetAndRenewed : Prop :=
  ∀ (tag : Byte) (p : Nat) (s : State), s.Accepting tag →
    let good : Prop := p = 0 ∨ 10 ≤ p ∧ p ≤ 10000 ∧ p % 10 = 0
    let left (l : Lease) : State := { s with image := { s.image with lease := l } }
    let on : Lease := .active p (s.now + p * 24000)
    let onFields := [1#8, 1#8] ++ bytes2 p ++ [1#8] ++ bytes2 p
    (¬ good → exec (.setLease tag p) s = .next (s.answered tag 0x43#8 .badArg [])) ∧
    (good → p ≠ 0 → (∀ q, s.image.lease ≠ .expired q) →
      exec (.setLease tag p) s = .next ((left on).answered tag 0x43#8 .ok onFields)) ∧
    (good → p ≠ 0 → (∃ q, s.image.lease = .expired q) →
      exec (.setLease tag p) s = .next ((left (.expired p)).answered tag 0x43#8 .ok
        ([2#8, 1#8] ++ bytes2 p ++ [0#8]))) ∧
    (p = 0 → (∀ q, s.image.lease ≠ .expired q) →
      exec (.setLease tag p) s = .next ((left .off).answered tag 0x43#8 .ok [0#8, 0#8, 0#8])) ∧
    (p = 0 → (∃ q, s.image.lease = .expired q) →
      exec (.setLease tag p) s = .next
        ({ (left .off) with faults := s.faults.mark 0 .leaseExpired }.answered tag 0x43#8 .ok
          [0#8, 0#8, 0#8])) ∧
    (∀ q due, s.image.lease = .active q due →
      exec (.renewLease tag) s = .next
        ((left (.active q (s.now + q * 24000))).answered tag 0x44#8 .ok (bytes2 q))) ∧
    ((∀ q due, s.image.lease ≠ .active q due) →
      exec (.renewLease tag) s = .next (s.answered tag 0x44#8 .wrongState []))

/-- An ACTIVE lease that runs out becomes EXPIRED, sets every image of a nonzero output width to its
entry's expiry value, and raises LEASE_EXPIRED active. The expiry carries the clock to the lease's end
(log 2); another lease has no expiry (log 3). -/
def Obligations.LeaseExpiryWritesFallback : Prop :=
  ∀ s : State,
    (∀ p due, s.image.lease = .active p due →
      ∃ t, exec .leaseExpiry s = .next t ∧ t.now = max s.now due ∧ t.image.lease = .expired p ∧
        (∀ i e, s.image? i.address = some i → s.entry? i.address = some e →
          t.image? i.address = some
            (if e.outWidth = 0 then i else
              { i with
                origin := .fallback
                staged := match e.fallback with
                  | .zero => List.replicate e.outWidth 0#8
                  | .hold => i.latched
                  | .pattern b => b })) ∧
        t.faults = s.faults.take
          { address := 0, code := .leaseExpired, active := true, sweep := s.sweep.number,
            state := none, failure := none } ∧
        t.image.snapshotSweep = s.image.snapshotSweep ∧ t.roster = s.roster ∧
        t.stations = s.stations ∧ t.sweep = s.sweep ∧ t.engine = s.engine ∧
        t.requests = s.requests ∧ t.survey = s.survey) ∧
    ((∀ p due, s.image.lease ≠ .active p due) → exec .leaseExpiry s = .next s)

/-! ## Station requests -/

/-- SUBMIT: the checks in R117's order, else a QUEUED record at the end with the first free id from next
id on, its deadline running. -/
def Obligations.SubmitAppendsAQueuedRecord : Prop :=
  ∀ (tag : Byte) (a : SubmitArg) (s : State), s.Accepting tag → s.requests.Bounded →
    let good : Prop := IsStation a.address ∧ a.service ≤ 255 ∧ a.data.length ≤ 64 ∧
      10 ≤ a.deadline ∧ a.deadline ≤ 60000
    let refused (st : Status) : Prop :=
      exec (.submit tag a) s = .next (s.answered tag 0x50#8 st [])
    let nth (k : Nat) : Nat := (s.requests.nextId - 1 + k) % 255 + 1
    let held (id : Nat) : Prop := ∃ t ∈ s.requests.records, t.id = id
    let awaiting : Nat := (s.requests.records.filter (·.state == .awaiting)).length
    let record (id : Nat) : Txn :=
      { id := id, address := a.address, service := a.service, data := a.data,
        deadline := a.deadline, due := s.now + a.deadline * 24000, state := .queued, attempts := 0 }
    (¬ good → refused .badArg) ∧
    (good → s.entry? a.address = none → refused .noStation) ∧
    (good → s.entry? a.address ≠ none → 24 ≤ s.requests.records.length → refused .full) ∧
    (good → s.entry? a.address ≠ none → s.requests.records.length < 24 →
      ∃ k, ¬ held (nth k) ∧ (∀ j < k, held (nth j)) ∧
        exec (.submit tag a) s = .next
          ({ s with requests := { s.requests with
              nextId := nth k % 255 + 1
              records := s.requests.records ++ [record (nth k)] } }.answered tag 0x50#8 .ok
            (bytes1 (nth k) ++ bytes1 (s.requests.records.length + 1) ++ bytes1 awaiting)))

/-- The fields of a record; QUERY_REQUEST and LIST_REQUESTS report and change nothing; FETCH_RESULT and
DISCARD_RESULT remove a DONE record and no other. The time remaining is rounded up (log 11), FETCH_RESULT
returns the record without the station's mark (log 15), and the attempts take one byte (log 36). -/
def Obligations.TransactionsReadAndCollected : Prop :=
  (∀ (t : Txn) (now : Nat),
    let optional (l : Option (List Byte)) : List Byte := match l with
      | none => [0#8]
      | some l => [1#8] ++ l
    let live : Bool := t.state == .queued || t.state == .awaiting
    let ending : Option Ending := match t.state with
      | .queued => none
      | .awaiting => none
      | .done e => some e
    t.bytes now = bytes1 t.id ++ bytes1 t.address ++ bytes1 t.service ++
      bytes1 t.data.length ++ t.data ++ bytes2 t.deadline ++
      optional (if live then some (bytes2 ((t.due - now + 23999) / 24000)) else none) ++
      [match t.state with
        | .queued => 0#8
        | .awaiting => 1#8
        | .done _ => 2#8] ++ [t.attempts] ++
      (match ending with
        | none => [0xFF#8, 0#8, 0#8]
        | some e => [match e.code with
            | .ok => 1#8
            | .stationError => 2#8
            | .refused => 3#8
            | .timedOut => 4#8
            | .stationDown => 5#8
            | .stationRemoved => 6#8
            | .cancelled => 7#8
            | .lineDown => 8#8] ++
          (match e.detail with
            | none => [0#8, 0#8]
            | some d => [1#8] ++ bytes1 d)) ++
      optional ((ending.bind (·.data)).map fun d => bytes1 d.length ++ d) ++
      optional (ending.map fun e => bytes4 e.sweep.toNat)) ∧
  (∀ (tag : Byte) (id : Nat) (s : State), s.Accepting tag →
     (id = 0 → exec (.queryRequest tag id) s = .next (s.answered tag 0x51#8 .badArg [])) ∧
     (id ≠ 0 → s.txn? id = none →
       exec (.queryRequest tag id) s = .next (s.answered tag 0x51#8 .notFound [])) ∧
     (∀ t, id ≠ 0 → s.txn? id = some t →
       exec (.queryRequest tag id) s = .next (s.answered tag 0x51#8 .ok
         (t.bytes s.now ++
           (if (s.entry? t.address).isSome then flagByte (s.requests.marks.contains t.address)
             else [0xFF#8])))) ∧
     exec (.listRequests tag) s = .next (s.answered tag 0x52#8 .ok
       (listBytes (s.requests.records.map fun t => bytes1 t.id ++ bytes1 t.state.code ++
           bytes1 t.address ++ (match t.state with
             | .done e => bytes1 e.code.code
             | .queued => [0xFF#8]
             | .awaiting => [0xFF#8])) ++
         bytes1 s.requests.records.length ++
         bytes1 (s.requests.records.filter (·.state == .awaiting)).length ++
         bytes1 s.requests.nextId ++ wordBytes s.requests.orphans))) ∧
  (∀ (tag : Byte) (id : Nat) (s : State), s.Accepting tag →
     let fetched (st : Status) : Prop :=
       exec (.fetchResult tag id) s = .next (s.answered tag 0x53#8 st [])
     let discarded (st : Status) : Prop :=
       exec (.discardResult tag id) s = .next (s.answered tag 0x54#8 st [])
     (id = 0 → fetched .badArg ∧ discarded .badArg) ∧
     (id ≠ 0 → s.txn? id = none → fetched .notFound ∧ discarded .notFound) ∧
     (∀ t, id ≠ 0 → s.txn? id = some t → t.state = .queued ∨ t.state = .awaiting →
       fetched .wrongState ∧ discarded .wrongState) ∧
     (∀ t e, id ≠ 0 → s.txn? id = some t → t.state = .done e →
       let left := s.requests.records.filter (·.id != id)
       let kept : State := { s with requests := { s.requests with records := left } }
       exec (.fetchResult tag id) s = .next (kept.answered tag 0x53#8 .ok (t.bytes s.now)) ∧
       exec (.discardResult tag id) s = .next (kept.answered tag 0x54#8 .ok
         (bytes1 id ++ bytes1 left.length))))

/-- CANCEL and a deadline's expiry make a live record DONE, in its place, and raise REQUEST_DONE; neither
touches a DONE one. The expiry carries the clock to the deadline's end (log 2), and has no effect for an
id that no live record holds (log 3). -/
def Obligations.CancelAndDeadlineEndARecord : Prop :=
  ∀ (tag : Byte) (id : Nat) (s : State),
    let ended (c : ResultCode) : RequestQueue :=
      { s.requests with records := s.requests.records.map fun u =>
          if u.id = id then
            { u with state := .done { code := c, detail := none, data := none,
                                      sweep := s.sweep.number } }
          else u }
    (s.Accepting tag → id = 0 → exec (.cancel tag id) s = .next (s.answered tag 0x55#8 .badArg [])) ∧
    (s.Accepting tag → id ≠ 0 → s.txn? id = none →
      exec (.cancel tag id) s = .next (s.answered tag 0x55#8 .notFound [])) ∧
    (∀ t e, s.Accepting tag → id ≠ 0 → s.txn? id = some t → t.state = .done e →
      exec (.cancel tag id) s = .next (s.answered tag 0x55#8 .wrongState [])) ∧
    (∀ t, s.Accepting tag → id ≠ 0 → s.txn? id = some t → t.state = .queued ∨ t.state = .awaiting →
      exec (.cancel tag id) s = .next
        ({ s with
          requests := ended .cancelled
          notices := s.notices.take (.requestDone id .cancelled t.address none) }.answered tag
          0x55#8 .ok (bytes1 t.state.code))) ∧
    (∀ t, s.txn? id = some t → t.state = .queued ∨ t.state = .awaiting →
      exec (.deadlineExpiry id) s = .next (State.pump { s with
        now := max s.now t.due
        requests := ended .timedOut
        notices := s.notices.take (.requestDone id .timedOut t.address none) })) ∧
    (∀ t e, s.txn? id = some t → t.state = .done e → exec (.deadlineExpiry id) s = .next s) ∧
    (s.txn? id = none → exec (.deadlineExpiry id) s = .next s)

/-! ## Faults -/

/-- READ_FAULTS, READ_CAPTURE and CLEAR_CAPTURE; ACK_FAULT, ACK_OLDEST and CLEAR_FAULTS remove their
entries, FLT follows, and the capture record stands. -/
def Obligations.FaultsReadAndAcknowledged : Prop :=
  (∀ (tag : Byte) (s : State), s.Accepting tag →
     exec (.readFaults tag) s = .next (s.answered tag 0x60#8 .ok
       (bytes1 s.faults.entries.length ++ bytes1 (s.faults.entries.filter (·.active)).length ++
         halfBytes s.faults.overflow ++ flagByte s.faults.capture.isSome ++
         s.faults.entries.flatMap fun e => bytes1 e.address ++ bytes1 e.code.code ++
           wordBytes e.firstSweep ++ wordBytes e.lastSweep ++ [e.repeats] ++ flagByte e.active)) ∧
     (s.faults.capture = none →
       exec (.readCapture tag) s = .next (s.answered tag 0x64#8 .empty [])) ∧
     (∀ c, s.faults.capture = some c →
       exec (.readCapture tag) s = .next (s.answered tag 0x64#8 .ok
         (bytes1 c.address ++ bytes1 c.code.code ++ wordBytes c.sweep ++
           optByte (c.state.map StationState.code) ++ bytes1 (failureCode c.failure) ++
           flagByte c.active ++ bytes1 c.disposition.code))) ∧
     exec (.clearCapture tag) s = .next
       ({ s with faults := { s.faults with capture := none } }.answered tag 0x65#8 .ok
         (flagByte s.faults.capture.isSome))) ∧
  (∀ (tag : Byte) (a code : Nat) (s : State), s.Accepting tag →
     let left (l : List FaultEntry) : State :=
       { s with faults := { s.faults with entries := l, flt := l.any (·.active) } }
     let removed (e : FaultEntry) (l : List FaultEntry) : List Byte := e.bytes ++ bytes1 l.length
     (119 < a ∨ code = 0 ∨ 7 < code →
       exec (.ackFault tag a code) s = .next (s.answered tag 0x61#8 .badArg [])) ∧
     (∀ c : FaultCode, a ≤ 119 → code = c.code →
       (∀ e ∈ s.faults.entries, ¬ (e.address = a ∧ e.code = c)) →
       exec (.ackFault tag a code) s = .next (s.answered tag 0x61#8 .notFound [])) ∧
     (∀ (e : FaultEntry) (before after : List FaultEntry), s.faults.Law →
       s.faults.entries = before ++ e :: after → e.address ≤ 119 → a = e.address →
       code = e.code.code →
       exec (.ackFault tag a code) s = .next ((left (before ++ after)).answered tag 0x61#8 .ok
         (removed e (before ++ after)))) ∧
     (s.faults.entries = [] → exec (.ackOldest tag) s = .next (s.answered tag 0x62#8 .empty [])) ∧
     (∀ e rest, s.faults.entries = e :: rest →
       exec (.ackOldest tag) s = .next ((left rest).answered tag 0x62#8 .ok (removed e rest))) ∧
     exec (.clearFaults tag) s = .next
       ({ s with faults := { entries := [], overflow := 0, capture := s.faults.capture,
                             flt := false } }.answered tag 0x63#8 .ok
         (bytes1 s.faults.entries.length ++ halfBytes s.faults.overflow)))

/-- A raise of a fault coalesces, appends or overflows; then the capture record is offered it, FLT
follows the list, and FAULT_RAISED is raised. -/
def Obligations.FaultRaisesFold : Prop :=
  ∀ (r : FaultRaise) (s : State), s.faults.Law →
    let l := s.faults.entries
    let t := s.raiseFault r
    let capture (d : Disposition) : Option Capture :=
      match s.faults.capture with
      | some c => some c
      | none => some { address := r.address, code := r.code, sweep := r.sweep, state := r.state,
                       failure := r.failure, active := r.active, disposition := d }
    let notice (d : Disposition) (e : Option (Byte × Bool)) (overflow : Half) : Notice :=
      .faultRaised r.address r.code d r.sweep e overflow
    (∀ before e after, l = before ++ e :: after → e.address = r.address → e.code = r.code →
      let e' := { e with repeats := if e.repeats = 255 then 255 else e.repeats + 1,
                         lastSweep := r.sweep, active := e.active || r.active }
      t = { s with
        faults := { s.faults with entries := before ++ e' :: after, capture := capture .coalesced,
                                  flt := (before ++ e' :: after).any (·.active) }
        notices := s.notices.take
          (notice .coalesced (some (e'.repeats, e'.active)) s.faults.overflow) }) ∧
    ((∀ e ∈ l, ¬ (e.address = r.address ∧ e.code = r.code)) → l.length < 12 →
      let e' : FaultEntry :=
        { address := r.address, code := r.code, firstSweep := r.sweep, lastSweep := r.sweep,
          repeats := 1, active := r.active }
      t = { s with
        faults := { s.faults with entries := l ++ [e'], capture := capture .appended,
                                  flt := (l ++ [e']).any (·.active) }
        notices := s.notices.take (notice .appended (some (1, r.active)) s.faults.overflow) }) ∧
    ((∀ e ∈ l, ¬ (e.address = r.address ∧ e.code = r.code)) → l.length = 12 →
      let n := if s.faults.overflow = 65535 then 65535 else s.faults.overflow + 1
      t = { s with
        faults := { s.faults with overflow := n, capture := capture .overflowed }
        notices := s.notices.take (notice .overflowed none n) })

/-! ## Notices -/

/-- SET_NOTICE_CLASS, GRANT_NOTICES and WITHHOLD_NOTICES. The class table is returned as seven bytes in the
order of the kinds' codes, without a count (log 16), and the credit in one byte (log 36). -/
def Obligations.NoticeClassesAndCreditSet : Prop :=
  ∀ (tag : Byte) (kind cls n : Nat) (s : State), s.Accepting tag →
    let table (c : ClassTable) : List Byte :=
      [c.faultRaised, c.lineState, c.stationState, c.requestDone, c.commitApplied, c.surveyDone,
        c.sweepDone].flatMap bytes1
    let fields (q : NoticeQueue) : List Byte :=
      table q.classes ++ bytes1 q.entries.length ++ bytes1 q.credit ++ halfBytes q.dropped
    (∀ k : NoticeKind, kind = k.code → cls ≤ 3 →
      ∃ c : ClassTable, c.get k = cls ∧ (∀ j, j ≠ k → c.get j = s.notices.classes.get j) ∧
        let q := { s.notices with classes := c }
        exec (.setNoticeClass tag (some kind) (some cls)) s = .next
          ({ s with notices := q }.answered tag 0x70#8 .ok (fields q))) ∧
    (kind = 0 ∨ 7 < kind ∨ 3 < cls →
      exec (.setNoticeClass tag (some kind) (some cls)) s =
        .next (s.answered tag 0x70#8 .badArg [])) ∧
    exec (.setNoticeClass tag none none) s =
      .next (s.answered tag 0x70#8 .ok (fields s.notices)) ∧
    exec (.setNoticeClass tag (some kind) none) s =
      .next (s.answered tag 0x70#8 .badLength []) ∧
    exec (.setNoticeClass tag none (some cls)) s = .next (s.answered tag 0x70#8 .badLength []) ∧
    (1 ≤ n → n ≤ 255 →
      let credit := min (s.notices.credit + n) 255
      exec (.grantNotices tag n) s = .next
        ({ s with notices := { s.notices with credit := credit } }.answered tag 0x71#8 .ok
          (bytes1 credit ++ bytes1 s.notices.entries.length))) ∧
    (n = 0 ∨ 255 < n → exec (.grantNotices tag n) s = .next (s.answered tag 0x71#8 .badArg [])) ∧
    exec (.withholdNotices tag) s = .next
      ({ s with notices := { s.notices with credit := 0 } }.answered tag 0x72#8 .ok
        (bytes1 s.notices.credit))

/-- FETCH_NOTICE takes the head, the oldest entry of the highest class, and leaves the credit; and the bytes of
a notice, kind by kind. -/
def Obligations.FetchNoticeTakesTheHead : Prop :=
  (∀ (e : NoticeEntry) (dropped : Half),
    let whole (kind first second : Nat) (payload : List Byte) : Prop :=
      e.bytes dropped = bytes1 e.cls ++ bytes1 kind ++ bytes1 first ++ bytes1 second ++ [e.merge] ++
        bytes2 dropped.toNat ++ payload
    let detailed (d : Option Nat) : List Byte := match d with
      | none => [0#8, 0#8]
      | some d => [1#8] ++ bytes1 d
    match e.notice with
    | .faultRaised a c d sweep entry overflow => whole 1 a c.code
        (bytes1 d.code ++ bytes4 sweep.toNat ++
          (match entry with
            | some (repeats, active) => [repeats] ++ bytes1 active.toNat
            | none => [0#8, 0xFF#8]) ++ bytes2 overflow.toNat)
    | .lineState now before =>
        whole 2 0 0 (bytes1 now.code ++ bytes1 before.code ++ bytes1 now.causeCode)
    | .stationState a now before miss => whole 3 a 0
        (bytes1 now.code ++
          (match before with
            | none => [0xFF#8]
            | some b => bytes1 b.code) ++ bytes1 miss)
    | .requestDone id code a detail =>
        whole 4 id 0 (bytes1 code.code ++ bytes1 a ++ detailed detail)
    | .commitApplied g kept changed new removed => whole 5 0 0
        (bytes4 g.toNat ++ bytes1 kept ++ bytes1 changed ++ bytes1 new ++ bytes1 removed)
    | .surveyDone status done found noisy overflow entries => whole 6 0 0
        (bytes1 status.code ++ bytes1 done ++ bytes1 found ++ bytes1 noisy ++
          bytes1 overflow.toNat ++ bytes1 entries)
    | .sweepDone n last => whole 7 0 0 (bytes2 n ++ bytes4 last.toNat)) ∧
  ∀ (tag : Byte) (s : State), s.Accepting tag →
    (s.notices.entries = [] →
      exec (.fetchNotice tag) s =
        .next (s.answered tag 0x73#8 .empty (halfBytes s.notices.dropped))) ∧
    (∀ e before after, s.notices.entries = before ++ e :: after →
      (∀ f ∈ before, f.cls < e.cls) → (∀ f ∈ after, f.cls ≤ e.cls) →
      exec (.fetchNotice tag) s = .next
        ({ s with notices := { s.notices with entries := before ++ after,
                                              atn := !(before ++ after).isEmpty } }.answered tag
          0x73#8 .ok (e.bytes s.notices.dropped)))

/-- A raise of a notice is suppressed, coalesces, appends, displaces the youngest entry of the lowest
class, or is lost. -/
def Obligations.NoticeRaisesFold : Prop :=
  ∀ (n : Notice) (q : NoticeQueue), q.Law →
    let c := q.classes.get n.kind
    let entry : NoticeEntry := { notice := n, cls := c, merge := 1 }
    let lost := if q.dropped = 65535 then 65535 else q.dropped + 1
    (c = 0 → q.take n = q) ∧
    (∀ before e after, c ≠ 0 → q.entries = before ++ e :: after →
      e.notice.matter = n.matter →
      q.take n = { q with entries := before ++
        { e with notice := n, merge := if e.merge = 255 then 255 else e.merge + 1 } :: after }) ∧
    (c ≠ 0 → (∀ e ∈ q.entries, e.notice.matter ≠ n.matter) →
      (q.entries.length < 16 → q.take n = { q with entries := q.entries ++ [entry], atn := true }) ∧
      (q.entries.length = 16 → (∀ e ∈ q.entries, c ≤ e.cls) → q.take n = { q with dropped := lost }) ∧
      (∀ before e after, q.entries.length = 16 → q.entries = before ++ e :: after → e.cls < c →
        (∀ f ∈ before, e.cls ≤ f.cls) → (∀ f ∈ after, e.cls < f.cls) →
        q.take n = { q with entries := before ++ after ++ [entry], dropped := lost }))

/-! ## The field line -/

/-- The engine's own moves: each character received while sending is the echo of the next character sent,
and one that differs, is ill formed or comes later than one character time is a collision; the last echo
opens the window, which runs from the last stop bit, or ends the SAFE broadcast; a guard's end sends what
is held; the end of a SAFE broadcast applies a copy pending in SWEEPING (log 27) and brings the line to its
target, every AWAITING record ended with LINE_DOWN (`State.afterOff`, `State.afterPolicyHalt`; a halt
retargeted to OFF goes through HALTED). TRANSMISSION_COMPLETE and SAFE_COMPLETE stand for the echoes
still to come (log 21), each for its own frame (log 29). LDE is released with the last echo (log 38). An
event carries the clock to the instant it belongs to (log 2), has no effect where it cannot occur
(log 3), and what it raises is handed over at the end of the step (log 6). -/
def Obligations.EngineSendsWaitsAndGuards : Prop :=
  (∀ c : FieldChar, c.ok = true ↔ c.stop = true ∧
    (((List.range 8).filter fun k => c.value.getLsbD k).length + c.parity.toNat) % 2 = 0) ∧
  ∀ s : State,
    (∀ x a, s.engine.state = .sending → s.engine.exchange = some x → x.chooser ≠ .safe →
      s.engine.attempt = some a →
      exec .transmissionComplete s = .next (State.pump { s with
        now := max s.now s.engine.due
        engine := { s.engine with
          state := .window, lde := false, due := s.engine.due + a.window * 24
          counters := { s.engine.counters with sent := satInc s.engine.counters.sent } } })) ∧
    (s.engine.state ≠ .sending → exec .transmissionComplete s = .next s) ∧
    (∀ x a c, s.engine.state = .sending → s.engine.exchange = some x →
      s.engine.attempt = some a → a.echoed < x.payload.length + 6 →
      let stop := s.engine.due - (x.payload.length + 6 - (a.echoed + 1)) * a.charTime
      let good : Prop :=
        c.ok = true ∧ x.bytes[a.echoed]? = some c.value ∧ s.now ≤ stop + a.charTime
      let last : Prop := a.echoed + 1 = x.payload.length + 6
      (good → ¬ last → exec (.fieldCharacterReceived c) s = .next (State.pump { s with
        now := max s.now stop
        engine := { s.engine with attempt := some { a with echoed := a.echoed + 1 } } })) ∧
      (good → last → x.chooser ≠ .safe →
        exec (.fieldCharacterReceived c) s = exec .transmissionComplete s) ∧
      (good → last → x.chooser = .safe →
        exec (.fieldCharacterReceived c) s = exec .safeComplete s) ∧
      (¬ good → exec (.fieldCharacterReceived c) s =
        exec .echoCollision { s with now := max s.now stop })) ∧
    (∀ x, s.engine.state = .guard → s.engine.exchange = some x → s.engine.frame = none →
      exec .guardExpiry s = .next (State.pump { s with
        now := max s.now s.engine.due
        engine := { s.engine with
          state := .sending, lde := true
          attempt := some { toggle := x.toggle, window := s.roster.committed.header.window,
                            echoed := 0, charTime := s.charCycles }
          due := max s.now s.engine.due + (x.payload.length + 6) * s.charCycles } })) ∧
    (s.engine.state = .guard → (s.engine.exchange = none ∨ s.engine.frame.isSome = true) →
      exec .guardExpiry s = .next (State.pump { s with
        now := max s.now s.engine.due, engine := { s.engine with state := .idle } })) ∧
    (s.engine.state ≠ .guard → exec .guardExpiry s = .next s) ∧
    (∀ x c, s.engine.state = .sending → s.engine.exchange = some x → x.chooser = .safe →
      s.sweep.closing = some c →
      ∃ t, exec .safeComplete s = .next t ∧ t.now = max s.now s.engine.due ∧
        t.sweep.line = (if c.target = .off then .off else if c.byHalt then .halted .policy else .off) ∧
        t.sweep.closing = none ∧ t.sweep.stop = false ∧ t.sweep.phase = .idle ∧
        t.engine.state = .idle ∧ t.engine.exchange = none ∧ t.engine.lde = false ∧
        t.engine.counters = { s.engine.counters with sent := satInc s.engine.counters.sent } ∧
        (∀ u ∈ t.requests.records, u.isAwaiting = false) ∧
        (s.sweep.line = .sweeping → t.roster.pendingCopy = none)) ∧
    (∀ x c, s.engine.state = .sending → s.engine.exchange = some x → x.chooser = .safe →
      s.sweep.closing = some c →
      (s.sweep.line = .sweeping → s.roster.pendingCopy ≠ none →
        s.RecordsMatchRoster ∧ s.LiveRecordsRostered) →
      let sent : State := { s with
        now := max s.now s.engine.due
        engine := { s.engine with
          counters := { s.engine.counters with sent := satInc s.engine.counters.sent } } }
      ∃ u : State, (if s.sweep.line = .sweeping then sent.CopyApplied u else u = sent) ∧
        (c.byHalt = false → exec .safeComplete s = .next u.afterOff.pump) ∧
        (c.byHalt = true → c.target = .haltedPolicy →
          exec .safeComplete s = .next u.afterPolicyHalt.pump) ∧
        (c.byHalt = true → c.target = .off →
          exec .safeComplete s = .next u.afterPolicyHalt.afterOff.pump)) ∧
    (s.engine.state ≠ .sending → exec .safeComplete s = .next s)

/-- A cyclic attempt that fails, as a timeout at the window's end or as a corrupt reply: counted, guarded and
reported; repeated while the attempt limit allows; else the miss count rises, and at the limit the
station is LOST or PARKED, NO_ANSWER is raised, and under HALT the sweep is cut and the line closes. An
outcome whose station has left its state is discarded. In a sweep marked for cutting it is counted on
the line alone, and the boundary is reached. An expiry carries the clock to its limit (log 2),
REPLY_FRAME_END feeds its characters at one instant (log 5), and a notice raised meanwhile is handed over
at the end of the step (log 6). A station that goes down from ONLINE or FALTERING departs
(`State.departed`): its AWAITING record ends with STATION_DOWN, with REQUEST_DONE before the fault's
notice and the state's. A copy pending under HALT is applied as `State.Applied` states (log 27). -/
def Obligations.CyclicFailuresRepeatThenCountMisses : Prop :=
  ∀ (s : State) (x : Exchange) (r : Station) (e : RosterEntry),
    x.chooser = .cyclic → (x.kind = .poll ∨ x.kind = .ident) → s.sweep.line = .sweeping →
    s.RecordsMatchRoster → s.RostersLegal →
    s.station? x.address = some r → s.entry? x.address = some e →
    let policy := s.roster.committed.header.policy
    let taken : Prop := (x.kind = .poll ∧ (r.state = .online ∨ r.state = .faltering)) ∨
      (x.kind = .ident ∧ r.state = .pending)
    ∀ c k endedAt now, s.AttemptFails x c k endedAt now →
      let ended (held : Option Exchange) : State :=
        { s with now := now, engine := s.engine.afterAttempt (some k) (endedAt + 4 * s.charCycles) held,
                 stations := s.stationsWith x.address (·.afterAttempt (some k)) }
      let missed (st : StationState) : State :=
        { ended none with stations := s.stationsWith x.address fun _ =>
          { r.afterAttempt (some k) with
            miss := r.miss + 1, failed := satInc r.failed, state := st } }
      let gone : StationState := if policy = .hold then .parked else .lost
      let down : State := State.noting (.stationState x.address gone (some r.state) (r.miss + 1))
        (State.raiseFault
          { address := x.address, code := .noAnswer, active := true, sweep := s.sweep.number,
            state := some gone, failure := some k }
          (if r.state = .pending then missed gone else (missed gone).departed x.address))
      (s.sweep.cut = true → exec c s = .next (State.pump (State.boundaryReached
        { s with
          now := now
          engine := s.engine.afterAttempt (some k) (endedAt + 4 * s.charCycles) none }))) ∧
      (s.sweep.cut = false →
        (x.made + 1 < x.limit → exec c s = .next (State.pump
          (ended (some { x with made := x.made + 1, lastFailure := some k })))) ∧
        (x.limit ≤ x.made + 1 → ¬ taken →
          exec c s = .next (State.pump (State.runCyclic (ended none)))) ∧
        (x.limit ≤ x.made + 1 → taken → r.miss + 1 < e.missLimit →
          exec c s = .next (State.pump (State.runCyclic
            (if r.state = .online then
              State.noting (.stationState x.address .faltering (some .online) (r.miss + 1))
                (missed .faltering)
            else missed r.state)))) ∧
        (x.limit ≤ x.made + 1 → taken → e.missLimit ≤ r.miss + 1 → policy ≠ .halt →
          exec c s = .next (State.pump (State.runCyclic down))) ∧
        (x.limit ≤ x.made + 1 → taken → e.missLimit ≤ r.miss + 1 → policy = .halt →
          s.roster.pendingCopy = none ∨ s.LiveRecordsRostered →
          ∃ u : State,
            State.CopyApplied { down with
              image := s.image.afterPublication s.sweep.number true
              sweep := { s.sweep with
                phase := .idle
                stats := { s.sweep.stats with abandoned := satInc s.sweep.stats.abandoned } } } u ∧
            exec c s = .next (State.pump { u with
              sweep := { u.sweep with closing := some { target := .haltedPolicy, byHalt := true } }
              engine := { u.engine with
                exchange := some
                  { chooser := .safe, kind := .safe, address := 127, payload := [], toggle := false,
                    limit := 1, made := 0, lastFailure := none } } })) ∧
        (x.limit ≤ x.made + 1 → taken → e.missLimit ≤ r.miss + 1 → r.state ≠ .pending →
          ∃ t, exec c s = .next t ∧
            ∀ v ∈ t.requests.records, v.address = x.address → v.state ≠ .awaiting))

/-- A good DATA to a POLL, received whole: counted, guarded, reported; the miss count falls to 0, the
station is ONLINE, or PENDING when it restarted, its flags are stored and its inputs taken; the mark
follows RESULT_READY, an edge of ALARM raises STATION_ALARM with the state before (log 18) or ends it, a
restart is a departure (`State.departed`), whose AWAITING record ends with STATION_DOWN and whose
REQUEST_DONE comes first, and raises RESTARTED; and a change of state is announced. A DATA whose
station has left ONLINE and FALTERING is discarded. The sweep then goes on, or, marked for cutting, has
reached its boundary. REPLY_FRAME_END feeds its characters at one instant (log 5), which takes no time
(log 2), and the notices raised may be handed over at the end of the step (log 6). -/
def Obligations.GoodDataIsTaken : Prop :=
  ∀ (s : State) (x : Exchange) (r : Station) (e : RosterEntry) (rest : List FieldChar)
    (flags : Byte) (inputs : List Byte),
    x.chooser = .cyclic → x.kind = .poll → s.sweep.line = .sweeping → s.RecordsMatchRoster →
    s.RostersLegal →
    s.station? x.address = some r → s.entry? x.address = some e → inputs.length = e.inWidth →
    s.ReplyComes x rest x.address (128 + 8 * x.toggle.toNat) (flags :: inputs) →
    let a := x.address
    let alarm := flags.getLsbD 0
    let restarted := flags.getLsbD 2
    let polled : Prop := r.state = .online ∨ r.state = .faltering
    let new : StationState := if restarted then .pending else .online
    let ended : State :=
      { s with engine := s.engine.afterAttempt none (s.now + 4 * s.charCycles) none,
               stations := s.stationsWith a (·.afterAttempt none) }
    (¬ polled →
      exec (.replyFrameEnd rest) s = .next (State.pump (State.goingOn State.runCyclic ended))) ∧
    (polled →
      ∃ marks : List Nat,
        (∀ b, b ∈ marks ↔
          if b = a then flags.getLsbD 1 = true ∧ restarted = false else b ∈ s.requests.marks) ∧
        (Ascending s.requests.marks → Ascending marks) ∧
        let left : State := if restarted then ended.departed a else ended
        let taken : State := { left with
          stations := s.stationsWith a fun _ =>
            { r.afterAttempt none with
              miss := 0, state := new
              flags := { alarm := alarm, resultReady := flags.getLsbD 1, restarted := restarted } }
          image := { s.image with images := s.image.images.map fun i =>
            if i.address = a then { i with working := inputs, delivered := true } else i }
          requests := { left.requests with marks := marks } }
        let alarmed : State :=
          if alarm = true ∧ r.flags.alarm = false then
            State.raiseFault { address := a, code := .stationAlarm, active := true,
                               sweep := s.sweep.number, state := some r.state, failure := none } taken
          else if alarm = false ∧ r.flags.alarm = true then
            { taken with faults := s.faults.mark a .stationAlarm }
          else taken
        let raised : State :=
          if restarted = true then
            State.raiseFault { address := a, code := .restarted, active := false,
                               sweep := s.sweep.number, state := some .pending, failure := none }
              alarmed
          else alarmed
        exec (.replyFrameEnd rest) s = .next (State.pump (State.goingOn State.runCyclic
          (if new = r.state then raised
            else raised.noting (.stationState a new (some r.state) 0))))) ∧
    (polled → restarted = true → ∃ t, exec (.replyFrameEnd rest) s = .next t ∧
      ∀ v ∈ t.requests.records, v.address = a → v.state ≠ .awaiting)

/-- An IDREPLY to a PENDING station in its turn, or to a LOST one that is probed: a matching identity admits
it, another makes it MISMATCHED and raises MISMATCH; a probe's reply ends NO_ANSWER. A probe without a
good reply counts a probe failure. An outcome whose station has left its state is discarded. The sweep
then goes on, or, marked for cutting, has reached its boundary, and a failed probe is then counted on
the line alone. An expiry carries the clock to its limit (log 2), REPLY_FRAME_END feeds its characters
at one instant (log 5), and a notice raised is handed over at the end of the step (log 6). -/
def Obligations.IdentityAdmitsOrMismatches : Prop :=
  ∀ (s : State) (x : Exchange) (r : Station) (e : RosterEntry),
    x.chooser = .cyclic ∨ x.chooser = .probe → x.kind = .ident → s.sweep.line = .sweeping →
    s.RecordsMatchRoster → s.RostersLegal →
    s.station? x.address = some r → s.entry? x.address = some e →
    let a := x.address
    let served : StationState := if x.chooser = .cyclic then .pending else .lost
    let ended (k : Option FailureKind) (endedAt now : Nat) (t : Station) : State :=
      { s with now := now, engine := s.engine.afterAttempt k (endedAt + 4 * s.charCycles) none,
               stations := s.stationsWith a fun _ => t.afterAttempt k }
    (∀ (rest : List FieldChar) (control : Nat) (lo hi inW outW rev : Byte),
      control = 144 ∨ control = 152 → inW.toNat ≤ 16 → outW.toNat ≤ 16 →
      s.ReplyComes x rest a control [lo, hi, inW, outW, rev] →
      let goesOn (u : State) : Prop := exec (.replyFrameEnd rest) s =
        .next (State.pump (u.goingOn (if x.chooser = .cyclic then State.runCyclic else State.endPhase)))
      let identity : Identity :=
        { classCode := lo.toNat + 256 * hi.toNat, inWidth := inW.toNat, outWidth := outW.toNat,
          revision := rev.toNat }
      let accepted : Prop := (e.classCode = 0 ∨ identity.classCode = e.classCode) ∧
        identity.inWidth = e.inWidth ∧ identity.outWidth = e.outWidth
      let answered (t : Station) : State :=
        { ended none s.now s.now t with
          faults := if x.chooser = .probe then s.faults.mark a .noAnswer else s.faults }
      (r.state ≠ served → goesOn (ended none s.now s.now r)) ∧
      (r.state = served → accepted →
        goesOn (State.noting (.stationState a .online (some served) 0)
          (answered { r with identity := some identity, miss := 0, toggle := false, state := .online,
                             joins := satInc r.joins }))) ∧
      (r.state = served → ¬ accepted →
        goesOn (State.noting (.stationState a .mismatched (some served) 0)
          (State.raiseFault
            { address := a, code := .mismatch, active := true, sweep := s.sweep.number,
              state := some .mismatched, failure := none }
            (answered { r with identity := some identity, miss := 0, state := .mismatched }))))) ∧
    (∀ c k endedAt now, x.chooser = .probe → x.limit ≤ x.made + 1 →
      s.AttemptFails x c k endedAt now →
      (s.sweep.cut = true → exec c s = .next (State.pump (State.boundaryReached
        { s with
          now := now
          engine := s.engine.afterAttempt (some k) (endedAt + 4 * s.charCycles) none }))) ∧
      (s.sweep.cut = false → exec c s = .next (State.pump (State.endPhase
        (ended (some k) endedAt now
          (if r.state = .lost then { r with probeFailures := satInc r.probeFailures } else r))))))

/-- What a REQ or a FETCH leads to: a REQACK moves its QUEUED record, a RESULT ends its station's AWAITING
record, one that fits no record is an orphan, RESULT and NOTREADY clear the mark, and a failure passes
the station over for the rest of the phase. The attempt is counted in the record whose id the frame
carries (log 30). The sweep then goes on, or, marked for cutting, has reached its boundary, and a failed
attempt is then counted on the line alone. An expiry carries the clock to its limit (log 2),
REPLY_FRAME_END feeds its characters at one instant (log 5), and a notice raised is handed over at the
end of the step (log 6). -/
def Obligations.AcyclicOutcomesMoveTheirRecords : Prop :=
  ∀ (s : State) (x : Exchange) (id : Byte), x.chooser = .acyclic → x.payload.head? = some id →
    IsStation x.address → s.sweep.line = .sweeping → s.requests.Bounded →
    let a := x.address
    let q := s.requests
    let counted (f : Txn → Txn) : List Txn := q.records.map fun t =>
      f (if t.id = id.toNat then { t with attempts := satInc t.attempts } else t)
    let move (n : Nat) (st : TxnState) (t : Txn) : Txn :=
      if t.id = n then { t with state := st } else t
    let done (c : ResultCode) (detail : Option Nat) (data : Option (List Byte)) : TxnState :=
      .done { code := c, detail := detail, data := data, sweep := s.sweep.number }
    let ended (k : Option FailureKind) (endedAt now : Nat) (q : RequestQueue) : State :=
      { s with now := now, engine := s.engine.afterAttempt k (endedAt + 4 * s.charCycles) none,
               stations := s.stationsWith a (·.afterAttempt k), requests := q }
    let result (detail : Byte) : ResultCode := if detail = 0#8 then .ok else .stationError
    let unmarked : List Nat := q.marks.filter (· != a)
    (∀ (rest : List FieldChar) (control : Nat) (payload : List Byte),
      s.ReplyComes x rest a control payload →
      let goesOn (q : RequestQueue) (n : Option Notice) : Prop :=
        exec (.replyFrameEnd rest) s = .next (State.pump (State.goingOn State.runAcyclic
          (n.elim (ended none s.now s.now q) fun n => (ended none s.now s.now q).noting n)))
      (∀ (detail : Byte) (data : List Byte), x.kind = .req →
        control = 160 ∨ control = 168 → data.length ≤ 64 →
        (∀ t ∈ q.records, t.id = id.toNat → t.state = .queued → t.address = a →
          (payload = [id, 0#8, detail] → s.polled a = true →
            goesOn { q with records := counted (move t.id .awaiting) } none) ∧
          (payload = [id, 0#8, detail] → s.polled a = false →
            goesOn { q with records := counted (move t.id (done .stationDown none none)) }
              (some (.requestDone t.id .stationDown a none))) ∧
          (payload = id :: 1#8 :: detail :: data →
            goesOn { q with
                records := counted
                  (move t.id (done (result detail) (some detail.toNat) (some data))) }
              (some (.requestDone t.id (result detail) a (some detail.toNat)))) ∧
          (payload = [id, 2#8, detail] →
            goesOn { q with
                records := counted (move t.id (done .refused (some detail.toNat) none)) }
              (some (.requestDone t.id .refused a (some detail.toNat))))) ∧
        ((∀ t ∈ q.records, ¬ (t.id = id.toNat ∧ t.state = .queued ∧ t.address = a)) →
          (payload = [id, 0#8, detail] ∨ payload = [id, 2#8, detail] →
            goesOn { q with records := counted (fun t => t) } none) ∧
          (payload = id :: 1#8 :: detail :: data →
            goesOn { q with records := counted (fun t => t), orphans := satInc q.orphans } none))) ∧
      (∀ (rid detail : Byte) (data : List Byte), x.kind = .fetch →
        control = 176 ∨ control = 184 →
        payload = rid :: detail :: data → data.length ≤ 64 →
        (∀ t ∈ q.records, t.id = rid.toNat → t.state = .awaiting → t.address = a →
          goesOn { q with
              marks := unmarked
              records := counted
                (move t.id (done (result detail) (some detail.toNat) (some data))) }
            (some (.requestDone t.id (result detail) a (some detail.toNat)))) ∧
        ((∀ t ∈ q.records, ¬ (t.id = rid.toNat ∧ t.state = .awaiting ∧ t.address = a)) →
          goesOn { q with marks := unmarked, records := counted (fun t => t),
                          orphans := satInc q.orphans } none)) ∧
      (x.kind = .fetch → control = 192 ∨ control = 200 → payload.length = 1 →
        goesOn { q with marks := unmarked, records := counted (fun t => t) } none)) ∧
    (∀ c k endedAt now, x.limit ≤ x.made + 1 → s.AttemptFails x c k endedAt now →
      (s.sweep.cut = true → exec c s = .next (State.pump (State.boundaryReached
        { s with
          now := now
          engine := s.engine.afterAttempt (some k) (endedAt + 4 * s.charCycles) none }))) ∧
      (s.sweep.cut = false → exec c s = .next (State.pump (State.runAcyclic
        { ended (some k) endedAt now { q with records := counted (fun t => t) } with
          sweep := { s.sweep with passedOver := s.sweep.passedOver ++ [a] } }))))

/-- What each phase of a sweep sends: the Cyclic phase a POLL or an IDENT to the next station it serves, or
on to ACYCLIC; a slot the oldest FETCH, else the lowest drain fetch, else the oldest REQ, or on to PROBE;
the Probe phase one IDENT to the next LOST station after the pointer, or on to END. An idle engine sends
it at once, any other holds it. -/
def Obligations.EachPhaseSendsWhatItsRuleChooses : Prop :=
  ∀ s : State,
    let exchange (c : Chooser) (k : MasterKind) (a : Nat) (payload : List Byte) (toggle : Bool)
        (limit : Nat) : Exchange :=
      { chooser := c, kind := k, address := a, payload := payload, toggle := toggle, limit := limit,
        made := 0, lastFailure := none }
    let limit := 1 + s.roster.committed.header.repeats
    let lost (a : Nat) : Prop := a ∈ s.roster.committed.entries.map (·.address) ∧
      ∃ r, s.station? a = some r ∧ r.state = .lost
    let passed (a : Nat) : Prop := a ∈ s.sweep.passedOver
    let waits (a : Nat) : Prop := ∃ v ∈ s.requests.records, v.state = .awaiting ∧ v.address = a
    let fetchable (t : Txn) : Prop :=
      t.state = .awaiting ∧ t.address ∈ s.requests.marks ∧ ¬ passed t.address
    let drainable (a : Nat) : Prop := a ∈ s.requests.marks ∧ ¬ waits a ∧ ¬ passed a
    let sendable (t : Txn) : Prop := t.state = .queued ∧ s.polled t.address = true ∧
      ¬ waits t.address ∧ ¬ passed t.address ∧
      (s.requests.records.filter (·.state == .awaiting)).length < 4
    let slot : State := { s with sweep := { s.sweep with slots := s.sweep.slots - 1 } }
    let noFetch : Prop := ∀ t ∈ s.requests.records, ¬ fetchable t
    let noDrain : Prop := ∀ a, ¬ drainable a
    (∀ x, s.hand x = { s with engine :=
      if s.engine.state = .idle ∧ s.engine.frame = none then
        { s.engine with
          state := .sending, exchange := some x, lde := true
          attempt := some { toggle := x.toggle, window := s.roster.committed.header.window,
                            echoed := 0, charTime := s.charCycles }
          due := s.now + (x.payload.length + 6) * s.charCycles }
      else { s.engine with exchange := some x } }) ∧
    (∀ e r, s.ServesNext s.sweep.number s.sweep.cursor e r →
      let reached : State := { s with sweep := { s.sweep with cursor := e.address } }
      (r.state = .pending →
        s.cyclicPhase = reached.hand (exchange .cyclic .ident e.address [] false limit)) ∧
      (∀ i, r.state ≠ .pending → s.image? e.address = some i →
        s.cyclicPhase = State.hand (exchange .cyclic .poll e.address i.latched (!r.toggle) limit)
          { reached with stations := s.stationsWith e.address fun t =>
              { t with toggle := !t.toggle } })) ∧
    ((∀ e ∈ s.roster.committed.entries, s.sweep.cursor < e.address →
        s.sweep.number.toNat % e.divisor = e.address % e.divisor →
        ∀ r, s.station? e.address = some r →
          r.state ≠ .pending ∧ r.state ≠ .online ∧ r.state ≠ .faltering) →
      s.cyclicPhase = State.acyclicPhase { s with sweep := { s.sweep with
        phase := .acyclic, slots := s.roster.committed.header.budget, passedOver := [] } }) ∧
    (s.sweep.slots = 0 → s.acyclicPhase = s.probePhase) ∧
    (∀ before t after, 0 < s.sweep.slots → s.requests.records = before ++ t :: after →
      fetchable t → (∀ v ∈ before, ¬ fetchable v) →
      s.acyclicPhase = slot.hand (exchange .acyclic .fetch t.address (bytes1 t.id) false 1)) ∧
    (∀ a, 0 < s.sweep.slots → noFetch → Ascending s.requests.marks → drainable a →
      (∀ b, b < a → ¬ drainable b) →
      s.acyclicPhase = slot.hand (exchange .acyclic .fetch a [0#8] false 1)) ∧
    (∀ before t after, 0 < s.sweep.slots → noFetch → noDrain →
      s.requests.records = before ++ t :: after → sendable t → (∀ v ∈ before, ¬ sendable v) →
      s.acyclicPhase = slot.hand (exchange .acyclic .req t.address
        (bytes1 t.id ++ bytes1 t.service ++ t.data) false 1)) ∧
    (noFetch → noDrain → (∀ t ∈ s.requests.records, ¬ sendable t) →
      s.acyclicPhase = s.probePhase) ∧
    (∀ a, Ascending (s.roster.committed.entries.map (·.address)) → lost a →
      (s.sweep.probe < a ∧ (∀ b, s.sweep.probe < b → b < a → ¬ lost b) ∨
        (∀ b, s.sweep.probe < b → ¬ lost b) ∧ (∀ b, b < a → ¬ lost b)) →
      s.probePhase = State.hand (exchange .probe .ident a [] false 1)
        { s with sweep := { s.sweep with phase := .probe, probe := a } }) ∧
    ((∀ a, ¬ lost a) →
      s.probePhase = { s with sweep := { s.sweep with phase := .ending } })

/-- A sweep that has gone through its phases: the inputs are published COMPLETE, the statistics updated, ACT
toggled and the pending copy applied; then the plan goes to READY (COUNTED done, with SWEEP_DONE; a stop;
an empty roster), to the next sweep, or under PACED to WAIT, to the next sweep, or over an overrun to it.
A Cyclic or Acyclic phase with nothing left to send ends its sweep in the same step; a successor that has
nothing to send ends in a later one (log 7). A sweep marked for cutting ends at its boundary instead:
published CUT, counted abandoned, the pending copy applied; then SAFE is handed over where the line
closes, else the new plan's first sweep begins, or READY on an empty roster. A copy is applied as
`State.Applied` states (log 27); what these raise is handed over at the end of the step (log 6). -/
def Obligations.SweepsEndByTheirPlanOrByACut : Prop :=
  ∀ s : State,
    (s.runCyclic = if s.cyclicPhase.sweep.phase = .ending then s.cyclicPhase.endPhase
      else s.cyclicPhase) ∧
    (s.runAcyclic = if s.acyclicPhase.sweep.phase = .ending then s.acyclicPhase.endPhase
      else s.acyclicPhase) ∧
    (s.RecordsMatchRoster → s.LiveRecordsRostered →
      let d : Word := BitVec.ofNat 32 (min ((s.now - s.sweep.startedAt) / 24) 0xFFFFFFFE)
      let n := s.sweep.number
      let stats := s.sweep.stats
      let ended : State := { s with
        image := s.image.afterPublication n false
        sweep := { s.sweep with
          act := !s.sweep.act
          stats := { stats with
            last := d
            minimum := if d < stats.minimum then d else stats.minimum
            maximum := if stats.maximum < d then d else stats.maximum
            completed := satInc stats.completed } } }
      ∃ u : State, ended.CopyApplied u ∧
        let ends : Prop := s.sweep.stop = true ∨ u.roster.committed.entries = []
        (∀ m, s.sweep.plan = .counted m →
          let counted : State :=
            { u with sweep := { u.sweep with remaining := s.sweep.remaining - 1 } }
          (s.sweep.remaining ≤ 1 →
            s.endPhase = State.afterReady (counted.noting (.sweepDone m n))) ∧
          (1 < s.sweep.remaining → ends → s.endPhase = counted.afterReady) ∧
          (1 < s.sweep.remaining → ¬ ends → s.endPhase = counted.afterLatch.cyclicPhase)) ∧
        (s.sweep.plan = .free →
          (ends → s.endPhase = u.afterReady) ∧
          (¬ ends → s.endPhase = u.afterLatch.cyclicPhase)) ∧
        (∀ p q, s.sweep.plan = .paced p → s.sweep.pacing = some q →
          let due := q.base + q.count * (p * 2400)
          let overrun : State := State.raiseFault
            { address := 0, code := .overrun, active := false, sweep := n, state := none,
              failure := none }
            { u with sweep := { u.sweep with
                pacing := some { base := q.base, count := 0 }
                stats := { u.sweep.stats with overruns := satInc u.sweep.stats.overruns } } }
          (ends → s.endPhase = u.afterReady) ∧
          (¬ ends → s.now < due →
            s.endPhase = { u with sweep := { u.sweep with phase := .wait } }) ∧
          (¬ ends → s.now = due → s.endPhase = u.afterLatch.cyclicPhase) ∧
          (¬ ends → due < s.now → s.endPhase = overrun.afterLatch.cyclicPhase))) ∧
    (s.RecordsMatchRoster → s.LiveRecordsRostered → s.sweep.line = .sweeping →
      let ended : State := { s with
        image := s.image.afterPublication s.sweep.number true
        sweep := { s.sweep with
          phase := .idle, cut := false
          stats := { s.sweep.stats with abandoned := satInc s.sweep.stats.abandoned } } }
      ∃ u : State, ended.CopyApplied u ∧
        (s.sweep.closing ≠ none → s.boundaryReached = u.hand
          { chooser := .safe, kind := .safe, address := 127, payload := [], toggle := false,
            limit := 1, made := 0, lastFailure := none }) ∧
        (s.sweep.closing = none → u.roster.committed.entries = [] →
          s.boundaryReached = u.afterReady) ∧
        (s.sweep.closing = none → u.roster.committed.entries ≠ [] →
          s.boundaryReached = u.afterLatch.runCyclic))

/-- Characters outside the echo: passed over in OFF and HALTED; a delimiter begins a frame, and in WINDOW the
reply, as begun in time (log 20); any of them restarts the quiet interval of LISTENING. One that is
received while a frame is being taken joins it and restarts its gap limit, or ends it: then, as where
the whole rest arrives, the frame is judged as at a gap's end of that instant. An unawaited frame that ends truncated, or complete and of no master kind, is stray and starts
a guard. The gap's end carries the clock to its limit (log 2); UNAWAITED_FRAME_END feeds its characters
at one instant and ends the frame (log 5); with no frame being taken none of the three has an effect
(log 3). -/
def Obligations.UnawaitedCharactersAndStrayFrames : Prop :=
  ∀ (s : State) (c : FieldChar),
    let quiet := if s.sweep.line = .listening then { s.sweep with quietDue := s.now + 480000 }
      else s.sweep
    let hears : Prop := s.sweep.line ≠ .off ∧ ∀ h, s.sweep.line ≠ .halted h
    let stray (endedAt : Nat) : LinkEngine :=
      { s.engine with
        state := .guard, frame := none
        due := if s.engine.state = .guard then max s.engine.due (endedAt + 4 * s.charCycles)
          else endedAt + 4 * s.charCycles
        counters := { s.engine.counters with stray := satInc s.engine.counters.stray } }
    (s.engine.state ≠ .sending → ¬ hears →
      exec (.fieldCharacterReceived c) s = .next s.pump) ∧
    (hears → s.engine.state ≠ .sending → s.engine.frame = none →
      exec (.fieldCharacterReceived c) s = .next (State.pump { s with
        sweep := quiet
        engine :=
          if c.ok = true ∧ c.value = 0x96#8 then
            { s.engine with
              state := if s.engine.state = .window then .receiving else s.engine.state
              frame := some { chars := [c], gapDue := s.now + 2 * s.charCycles } }
          else s.engine })) ∧
    (∀ f, hears → s.engine.state ≠ .sending → s.engine.frame = some f →
      (¬ FrameEnds (f.chars ++ [c]) →
        exec (.fieldCharacterReceived c) s = .next (State.pump { s with
          sweep := quiet
          engine := { s.engine with
            frame := some { chars := f.chars ++ [c], gapDue := s.now + 2 * s.charCycles } } })) ∧
      (FrameEnds (f.chars ++ [c]) → exec (.fieldCharacterReceived c) s =
        exec (if s.engine.state = .receiving then .replyFrameEnd [c] else .unawaitedFrameEnd [c])
          s)) ∧
    (∀ rest chars, hears ∨ rest = [] → s.engine.state ≠ .sending → s.TakesWhole rest chars →
      exec (if s.engine.state = .receiving then .replyFrameEnd rest else .unawaitedFrameEnd rest) s =
        exec .fieldGapExpiry { s with
          sweep := if rest = [] then s.sweep else quiet
          engine := { s.engine with frame := some { chars := chars, gapDue := s.now } } }) ∧
    (∀ f, s.engine.frame = some f → s.engine.state = .idle ∨ s.engine.state = .guard →
      (Broken f.chars ∨ (∃ address control payload,
          Intact f.chars address control payload ∧ ¬ MasterControl control)) →
      exec .fieldGapExpiry s = .next (State.pump { s with
        now := max s.now f.gapDue, engine := stray f.gapDue })) ∧
    (s.engine.frame = none → exec .fieldGapExpiry s = .next s ∧
      ∀ rest, exec (.unawaitedFrameEnd rest) s = .next s ∧
        exec (.replyFrameEnd rest) s = .next s)

/-- An echo collision, and a foreign master frame received whole, halt the line at once: nothing in
flight, the driver released, a running sweep cut and published, a pending copy applied (log 27), a running
survey cut with SURVEY_DONE; then every AWAITING record ended with LINE_DOWN, CONTENTION raised and the change of
line state announced (`State.afterContention`); what is raised may be handed over at the end of the step
(log 6). The two frame commands feed their characters at one instant (log 5); a collision outside
SENDING has no effect (log 3). -/
def Obligations.ContentionHaltsTheLine : Prop :=
  ∀ (s : State),
    let fault : FaultRaise :=
      { address := 0, code := .contention, active := true, sweep := s.sweep.number, state := none,
        failure := none }
    let halted (t : State) : Prop :=
      t.sweep.line = .halted .contention ∧ t.sweep.closing = none ∧ t.sweep.stop = false ∧
      t.sweep.phase = .idle ∧ t.engine.state = .idle ∧ t.engine.exchange = none ∧
      t.engine.frame = none ∧ t.engine.lde = false ∧
      (∀ u ∈ t.requests.records, u.isAwaiting = false) ∧
      (s.sweep.line = .sweeping → t.roster.pendingCopy = none) ∧
      (s.sweep.line = .sweeping → s.sweep.phase.running = true →
        t.image.snapshotCut = true ∧ t.image.snapshotSweep = s.sweep.number ∧
        t.sweep.stats.abandoned = satInc s.sweep.stats.abandoned) ∧
      (s.survey.status = .running → t.survey.status = .cut ∧ t.survey.current = none) ∧
      t.sweep.stats.completed = s.sweep.stats.completed ∧ t.sweep.act = s.sweep.act ∧
      (s.sweep.line ≠ .sweeping ∨ s.roster.pendingCopy = none →
        t.faults = s.faults.take fault ∧
        ∃ q : NoticeQueue,
          t.notices = NoticeQueue.take (.lineState (.halted .contention) s.sweep.line)
            (State.raiseFault fault { s with notices := q }).notices ∧
          (s.survey.status ≠ .running → (∀ u ∈ s.requests.records, u.isAwaiting = false) →
            q = s.notices))
    let counting (counters : LineCounters) : State :=
      { s with engine := { s.engine with counters := counters } }
    let leaves (c : Instr) (counted : State) : Prop :=
      (s.sweep.line = .sweeping → s.roster.pendingCopy ≠ none →
        s.RecordsMatchRoster ∧ s.LiveRecordsRostered) →
      let published : State := { counted with
        image := s.image.afterPublication s.sweep.number true
        sweep := { counted.sweep with
          phase := .idle, cut := false
          stats := { s.sweep.stats with abandoned := satInc s.sweep.stats.abandoned } } }
      ∃ u : State,
        (if s.sweep.line = .sweeping then
          (if s.sweep.phase.running = true then published else counted).CopyApplied u
        else u = counted) ∧
        (s.survey.status = .running → exec c s = .next (State.pump (State.afterContention
          (State.noting (.surveyDone .cut s.survey.done s.survey.foundTotal s.survey.noisy
              s.survey.overflow s.survey.found.length)
            { u with survey := { s.survey with status := .cut, current := none } })))) ∧
        (s.survey.status ≠ .running → exec c s = .next (State.pump u.afterContention))
    let halts (c : Instr) (counters : LineCounters) : Prop :=
      ∃ t, exec c s = .next (State.pump t) ∧ halted t ∧ t.engine.counters = counters
    let collided : LineCounters :=
      { s.engine.counters with collisions := satInc s.engine.counters.collisions }
    let heard : LineCounters :=
      { s.engine.counters with foreign := satInc s.engine.counters.foreign }
    (s.engine.state = .sending →
      halts .echoCollision collided ∧ leaves .echoCollision (counting collided)) ∧
    (s.engine.state ≠ .sending → exec .echoCollision s = .next s) ∧
    (∀ (f : TakenFrame) (rest : List FieldChar) (x : Exchange),
      s.engine.frame = some f → s.sweep.line.hears = true →
      (∀ c ∈ f.chars ++ rest, c.ok = true) → x.payload.length ≤ 72 →
      f.chars.map (·.value) ++ rest.map (·.value) = x.bytes →
      let counted : State := { counting heard with
        sweep := if s.sweep.line = .listening ∧ rest ≠ [] then
            { s.sweep with quietDue := s.now + 480000 }
          else s.sweep }
      (s.engine.state = .idle ∨ s.engine.state = .guard →
        halts (.unawaitedFrameEnd rest) heard ∧ leaves (.unawaitedFrameEnd rest) counted) ∧
      (s.engine.state = .receiving → s.engine.exchange.isSome = true →
        halts (.replyFrameEnd rest) heard ∧ leaves (.replyFrameEnd rest) counted))

end
end

