-- ==== Sys2Proof/Laws/State.lean ====
section
/-! SUPPORT. Each field of the state after each one-block update, and after the clock is carried on. -/

namespace Sys2Proof.Machine

variable (s : State)

section onRoster
variable (f : RosterManager → RosterManager)

@[simp] theorem State.onRoster_roster : (s.onRoster f).roster = f s.roster := rfl
@[simp] theorem State.onRoster_stations : (s.onRoster f).stations = s.stations := rfl
@[simp] theorem State.onRoster_sweep : (s.onRoster f).sweep = s.sweep := rfl
@[simp] theorem State.onRoster_engine : (s.onRoster f).engine = s.engine := rfl
@[simp] theorem State.onRoster_image : (s.onRoster f).image = s.image := rfl
@[simp] theorem State.onRoster_requests : (s.onRoster f).requests = s.requests := rfl
@[simp] theorem State.onRoster_faults : (s.onRoster f).faults = s.faults := rfl
@[simp] theorem State.onRoster_survey : (s.onRoster f).survey = s.survey := rfl
@[simp] theorem State.onRoster_notices : (s.onRoster f).notices = s.notices := rfl
@[simp] theorem State.onRoster_host : (s.onRoster f).host = s.host := rfl
@[simp] theorem State.onRoster_now : (s.onRoster f).now = s.now := rfl
@[simp] theorem State.onRoster_pending : (s.onRoster f).pending = s.pending := rfl

end onRoster

section onStations
variable (f : List Station → List Station)

@[simp] theorem State.onStations_roster : (s.onStations f).roster = s.roster := rfl
@[simp] theorem State.onStations_stations : (s.onStations f).stations = f s.stations := rfl
@[simp] theorem State.onStations_sweep : (s.onStations f).sweep = s.sweep := rfl
@[simp] theorem State.onStations_engine : (s.onStations f).engine = s.engine := rfl
@[simp] theorem State.onStations_image : (s.onStations f).image = s.image := rfl
@[simp] theorem State.onStations_requests : (s.onStations f).requests = s.requests := rfl
@[simp] theorem State.onStations_faults : (s.onStations f).faults = s.faults := rfl
@[simp] theorem State.onStations_survey : (s.onStations f).survey = s.survey := rfl
@[simp] theorem State.onStations_notices : (s.onStations f).notices = s.notices := rfl
@[simp] theorem State.onStations_host : (s.onStations f).host = s.host := rfl
@[simp] theorem State.onStations_now : (s.onStations f).now = s.now := rfl
@[simp] theorem State.onStations_pending : (s.onStations f).pending = s.pending := rfl

end onStations

section onSweep
variable (f : SweepController → SweepController)

@[simp] theorem State.onSweep_roster : (s.onSweep f).roster = s.roster := rfl
@[simp] theorem State.onSweep_stations : (s.onSweep f).stations = s.stations := rfl
@[simp] theorem State.onSweep_sweep : (s.onSweep f).sweep = f s.sweep := rfl
@[simp] theorem State.onSweep_engine : (s.onSweep f).engine = s.engine := rfl
@[simp] theorem State.onSweep_image : (s.onSweep f).image = s.image := rfl
@[simp] theorem State.onSweep_requests : (s.onSweep f).requests = s.requests := rfl
@[simp] theorem State.onSweep_faults : (s.onSweep f).faults = s.faults := rfl
@[simp] theorem State.onSweep_survey : (s.onSweep f).survey = s.survey := rfl
@[simp] theorem State.onSweep_notices : (s.onSweep f).notices = s.notices := rfl
@[simp] theorem State.onSweep_host : (s.onSweep f).host = s.host := rfl
@[simp] theorem State.onSweep_now : (s.onSweep f).now = s.now := rfl
@[simp] theorem State.onSweep_pending : (s.onSweep f).pending = s.pending := rfl

end onSweep

section onEngine
variable (f : LinkEngine → LinkEngine)

@[simp] theorem State.onEngine_roster : (s.onEngine f).roster = s.roster := rfl
@[simp] theorem State.onEngine_stations : (s.onEngine f).stations = s.stations := rfl
@[simp] theorem State.onEngine_sweep : (s.onEngine f).sweep = s.sweep := rfl
@[simp] theorem State.onEngine_engine : (s.onEngine f).engine = f s.engine := rfl
@[simp] theorem State.onEngine_image : (s.onEngine f).image = s.image := rfl
@[simp] theorem State.onEngine_requests : (s.onEngine f).requests = s.requests := rfl
@[simp] theorem State.onEngine_faults : (s.onEngine f).faults = s.faults := rfl
@[simp] theorem State.onEngine_survey : (s.onEngine f).survey = s.survey := rfl
@[simp] theorem State.onEngine_notices : (s.onEngine f).notices = s.notices := rfl
@[simp] theorem State.onEngine_host : (s.onEngine f).host = s.host := rfl
@[simp] theorem State.onEngine_now : (s.onEngine f).now = s.now := rfl
@[simp] theorem State.onEngine_pending : (s.onEngine f).pending = s.pending := rfl

end onEngine

section onImage
variable (f : ImageStore → ImageStore)

@[simp] theorem State.onImage_roster : (s.onImage f).roster = s.roster := rfl
@[simp] theorem State.onImage_stations : (s.onImage f).stations = s.stations := rfl
@[simp] theorem State.onImage_sweep : (s.onImage f).sweep = s.sweep := rfl
@[simp] theorem State.onImage_engine : (s.onImage f).engine = s.engine := rfl
@[simp] theorem State.onImage_image : (s.onImage f).image = f s.image := rfl
@[simp] theorem State.onImage_requests : (s.onImage f).requests = s.requests := rfl
@[simp] theorem State.onImage_faults : (s.onImage f).faults = s.faults := rfl
@[simp] theorem State.onImage_survey : (s.onImage f).survey = s.survey := rfl
@[simp] theorem State.onImage_notices : (s.onImage f).notices = s.notices := rfl
@[simp] theorem State.onImage_host : (s.onImage f).host = s.host := rfl
@[simp] theorem State.onImage_now : (s.onImage f).now = s.now := rfl
@[simp] theorem State.onImage_pending : (s.onImage f).pending = s.pending := rfl

end onImage

section onRequests
variable (f : RequestQueue → RequestQueue)

@[simp] theorem State.onRequests_roster : (s.onRequests f).roster = s.roster := rfl
@[simp] theorem State.onRequests_stations : (s.onRequests f).stations = s.stations := rfl
@[simp] theorem State.onRequests_sweep : (s.onRequests f).sweep = s.sweep := rfl
@[simp] theorem State.onRequests_engine : (s.onRequests f).engine = s.engine := rfl
@[simp] theorem State.onRequests_image : (s.onRequests f).image = s.image := rfl
@[simp] theorem State.onRequests_requests : (s.onRequests f).requests = f s.requests := rfl
@[simp] theorem State.onRequests_faults : (s.onRequests f).faults = s.faults := rfl
@[simp] theorem State.onRequests_survey : (s.onRequests f).survey = s.survey := rfl
@[simp] theorem State.onRequests_notices : (s.onRequests f).notices = s.notices := rfl
@[simp] theorem State.onRequests_host : (s.onRequests f).host = s.host := rfl
@[simp] theorem State.onRequests_now : (s.onRequests f).now = s.now := rfl
@[simp] theorem State.onRequests_pending : (s.onRequests f).pending = s.pending := rfl

end onRequests

section onFaults
variable (f : FaultList → FaultList)

@[simp] theorem State.onFaults_roster : (s.onFaults f).roster = s.roster := rfl
@[simp] theorem State.onFaults_stations : (s.onFaults f).stations = s.stations := rfl
@[simp] theorem State.onFaults_sweep : (s.onFaults f).sweep = s.sweep := rfl
@[simp] theorem State.onFaults_engine : (s.onFaults f).engine = s.engine := rfl
@[simp] theorem State.onFaults_image : (s.onFaults f).image = s.image := rfl
@[simp] theorem State.onFaults_requests : (s.onFaults f).requests = s.requests := rfl
@[simp] theorem State.onFaults_faults : (s.onFaults f).faults = f s.faults := rfl
@[simp] theorem State.onFaults_survey : (s.onFaults f).survey = s.survey := rfl
@[simp] theorem State.onFaults_notices : (s.onFaults f).notices = s.notices := rfl
@[simp] theorem State.onFaults_host : (s.onFaults f).host = s.host := rfl
@[simp] theorem State.onFaults_now : (s.onFaults f).now = s.now := rfl
@[simp] theorem State.onFaults_pending : (s.onFaults f).pending = s.pending := rfl

end onFaults

section onSurvey
variable (f : SurveyUnit → SurveyUnit)

@[simp] theorem State.onSurvey_roster : (s.onSurvey f).roster = s.roster := rfl
@[simp] theorem State.onSurvey_stations : (s.onSurvey f).stations = s.stations := rfl
@[simp] theorem State.onSurvey_sweep : (s.onSurvey f).sweep = s.sweep := rfl
@[simp] theorem State.onSurvey_engine : (s.onSurvey f).engine = s.engine := rfl
@[simp] theorem State.onSurvey_image : (s.onSurvey f).image = s.image := rfl
@[simp] theorem State.onSurvey_requests : (s.onSurvey f).requests = s.requests := rfl
@[simp] theorem State.onSurvey_faults : (s.onSurvey f).faults = s.faults := rfl
@[simp] theorem State.onSurvey_survey : (s.onSurvey f).survey = f s.survey := rfl
@[simp] theorem State.onSurvey_notices : (s.onSurvey f).notices = s.notices := rfl
@[simp] theorem State.onSurvey_host : (s.onSurvey f).host = s.host := rfl
@[simp] theorem State.onSurvey_now : (s.onSurvey f).now = s.now := rfl
@[simp] theorem State.onSurvey_pending : (s.onSurvey f).pending = s.pending := rfl

end onSurvey

section onNotices
variable (f : NoticeQueue → NoticeQueue)

@[simp] theorem State.onNotices_roster : (s.onNotices f).roster = s.roster := rfl
@[simp] theorem State.onNotices_stations : (s.onNotices f).stations = s.stations := rfl
@[simp] theorem State.onNotices_sweep : (s.onNotices f).sweep = s.sweep := rfl
@[simp] theorem State.onNotices_engine : (s.onNotices f).engine = s.engine := rfl
@[simp] theorem State.onNotices_image : (s.onNotices f).image = s.image := rfl
@[simp] theorem State.onNotices_requests : (s.onNotices f).requests = s.requests := rfl
@[simp] theorem State.onNotices_faults : (s.onNotices f).faults = s.faults := rfl
@[simp] theorem State.onNotices_survey : (s.onNotices f).survey = s.survey := rfl
@[simp] theorem State.onNotices_notices : (s.onNotices f).notices = f s.notices := rfl
@[simp] theorem State.onNotices_host : (s.onNotices f).host = s.host := rfl
@[simp] theorem State.onNotices_now : (s.onNotices f).now = s.now := rfl
@[simp] theorem State.onNotices_pending : (s.onNotices f).pending = s.pending := rfl

end onNotices

section onHost
variable (f : HostPort → HostPort)

@[simp] theorem State.onHost_roster : (s.onHost f).roster = s.roster := rfl
@[simp] theorem State.onHost_stations : (s.onHost f).stations = s.stations := rfl
@[simp] theorem State.onHost_sweep : (s.onHost f).sweep = s.sweep := rfl
@[simp] theorem State.onHost_engine : (s.onHost f).engine = s.engine := rfl
@[simp] theorem State.onHost_image : (s.onHost f).image = s.image := rfl
@[simp] theorem State.onHost_requests : (s.onHost f).requests = s.requests := rfl
@[simp] theorem State.onHost_faults : (s.onHost f).faults = s.faults := rfl
@[simp] theorem State.onHost_survey : (s.onHost f).survey = s.survey := rfl
@[simp] theorem State.onHost_notices : (s.onHost f).notices = s.notices := rfl
@[simp] theorem State.onHost_host : (s.onHost f).host = f s.host := rfl
@[simp] theorem State.onHost_now : (s.onHost f).now = s.now := rfl
@[simp] theorem State.onHost_pending : (s.onHost f).pending = s.pending := rfl

end onHost

section at_
variable (due : Nat)

@[simp] theorem State.at_roster : (s.at due).roster = s.roster := rfl
@[simp] theorem State.at_stations : (s.at due).stations = s.stations := rfl
@[simp] theorem State.at_sweep : (s.at due).sweep = s.sweep := rfl
@[simp] theorem State.at_engine : (s.at due).engine = s.engine := rfl
@[simp] theorem State.at_image : (s.at due).image = s.image := rfl
@[simp] theorem State.at_requests : (s.at due).requests = s.requests := rfl
@[simp] theorem State.at_faults : (s.at due).faults = s.faults := rfl
@[simp] theorem State.at_survey : (s.at due).survey = s.survey := rfl
@[simp] theorem State.at_notices : (s.at due).notices = s.notices := rfl
@[simp] theorem State.at_host : (s.at due).host = s.host := rfl
@[simp] theorem State.at_now : (s.at due).now = max s.now due := rfl
@[simp] theorem State.at_pending : (s.at due).pending = s.pending := rfl

end at_

end Sys2Proof.Machine
end

