-- ==== Sys2Proof/Laws/Ops.lean ====
section
/-! SUPPORT. What each shared operation can do: the blocks it leaves as they are, field by field, and the
state after a request that the Host Port takes. -/

namespace Sys2Proof.Machine

variable (s : State)

section raiseNotice
variable (n : Notice)

@[simp] theorem State.raiseNotice_roster : (s.raiseNotice n).roster = s.roster := rfl
@[simp] theorem State.raiseNotice_stations : (s.raiseNotice n).stations = s.stations := rfl
@[simp] theorem State.raiseNotice_sweep : (s.raiseNotice n).sweep = s.sweep := rfl
@[simp] theorem State.raiseNotice_engine : (s.raiseNotice n).engine = s.engine := rfl
@[simp] theorem State.raiseNotice_image : (s.raiseNotice n).image = s.image := rfl
@[simp] theorem State.raiseNotice_requests : (s.raiseNotice n).requests = s.requests := rfl
@[simp] theorem State.raiseNotice_faults : (s.raiseNotice n).faults = s.faults := rfl
@[simp] theorem State.raiseNotice_survey : (s.raiseNotice n).survey = s.survey := rfl
@[simp] theorem State.raiseNotice_host : (s.raiseNotice n).host = s.host := rfl
@[simp] theorem State.raiseNotice_now : (s.raiseNotice n).now = s.now := rfl
@[simp] theorem State.raiseNotice_pending : (s.raiseNotice n).pending = s.pending := rfl

end raiseNotice

section raiseFault
variable (r : FaultRaise)

@[simp] theorem State.raiseFault_roster : (s.raiseFault r).roster = s.roster := rfl
@[simp] theorem State.raiseFault_stations : (s.raiseFault r).stations = s.stations := rfl
@[simp] theorem State.raiseFault_sweep : (s.raiseFault r).sweep = s.sweep := rfl
@[simp] theorem State.raiseFault_engine : (s.raiseFault r).engine = s.engine := rfl
@[simp] theorem State.raiseFault_image : (s.raiseFault r).image = s.image := rfl
@[simp] theorem State.raiseFault_requests : (s.raiseFault r).requests = s.requests := rfl
@[simp] theorem State.raiseFault_survey : (s.raiseFault r).survey = s.survey := rfl
@[simp] theorem State.raiseFault_host : (s.raiseFault r).host = s.host := rfl
@[simp] theorem State.raiseFault_now : (s.raiseFault r).now = s.now := rfl
@[simp] theorem State.raiseFault_pending : (s.raiseFault r).pending = s.pending := rfl

end raiseFault

section raiseLineFault
variable (c : FaultCode) (active : Bool)

@[simp] theorem State.raiseLineFault_roster : (s.raiseLineFault c active).roster = s.roster := rfl
@[simp] theorem State.raiseLineFault_stations : (s.raiseLineFault c active).stations = s.stations := rfl
@[simp] theorem State.raiseLineFault_sweep : (s.raiseLineFault c active).sweep = s.sweep := rfl
@[simp] theorem State.raiseLineFault_engine : (s.raiseLineFault c active).engine = s.engine := rfl
@[simp] theorem State.raiseLineFault_image : (s.raiseLineFault c active).image = s.image := rfl
@[simp] theorem State.raiseLineFault_requests : (s.raiseLineFault c active).requests = s.requests := rfl
@[simp] theorem State.raiseLineFault_survey : (s.raiseLineFault c active).survey = s.survey := rfl
@[simp] theorem State.raiseLineFault_host : (s.raiseLineFault c active).host = s.host := rfl
@[simp] theorem State.raiseLineFault_now : (s.raiseLineFault c active).now = s.now := rfl
@[simp] theorem State.raiseLineFault_pending : (s.raiseLineFault c active).pending = s.pending := rfl

end raiseLineFault

section markInactive
variable (a : Nat) (c : FaultCode)

@[simp] theorem State.markInactive_roster : (s.markInactive a c).roster = s.roster := rfl
@[simp] theorem State.markInactive_stations : (s.markInactive a c).stations = s.stations := rfl
@[simp] theorem State.markInactive_sweep : (s.markInactive a c).sweep = s.sweep := rfl
@[simp] theorem State.markInactive_engine : (s.markInactive a c).engine = s.engine := rfl
@[simp] theorem State.markInactive_image : (s.markInactive a c).image = s.image := rfl
@[simp] theorem State.markInactive_requests : (s.markInactive a c).requests = s.requests := rfl
@[simp] theorem State.markInactive_survey : (s.markInactive a c).survey = s.survey := rfl
@[simp] theorem State.markInactive_notices : (s.markInactive a c).notices = s.notices := rfl
@[simp] theorem State.markInactive_host : (s.markInactive a c).host = s.host := rfl
@[simp] theorem State.markInactive_now : (s.markInactive a c).now = s.now := rfl
@[simp] theorem State.markInactive_pending : (s.markInactive a c).pending = s.pending := rfl

end markInactive

section markStation
variable (a : Nat)

@[simp] theorem State.markStation_roster : (s.markStation a).roster = s.roster := rfl
@[simp] theorem State.markStation_stations : (s.markStation a).stations = s.stations := rfl
@[simp] theorem State.markStation_sweep : (s.markStation a).sweep = s.sweep := rfl
@[simp] theorem State.markStation_engine : (s.markStation a).engine = s.engine := rfl
@[simp] theorem State.markStation_image : (s.markStation a).image = s.image := rfl
@[simp] theorem State.markStation_requests : (s.markStation a).requests = s.requests := rfl
@[simp] theorem State.markStation_survey : (s.markStation a).survey = s.survey := rfl
@[simp] theorem State.markStation_notices : (s.markStation a).notices = s.notices := rfl
@[simp] theorem State.markStation_host : (s.markStation a).host = s.host := rfl
@[simp] theorem State.markStation_now : (s.markStation a).now = s.now := rfl
@[simp] theorem State.markStation_pending : (s.markStation a).pending = s.pending := rfl

end markStation

section onTxn
variable (id : Nat) (f : Txn → Txn)

@[simp] theorem State.onTxn_roster : (s.onTxn id f).roster = s.roster := rfl
@[simp] theorem State.onTxn_stations : (s.onTxn id f).stations = s.stations := rfl
@[simp] theorem State.onTxn_sweep : (s.onTxn id f).sweep = s.sweep := rfl
@[simp] theorem State.onTxn_engine : (s.onTxn id f).engine = s.engine := rfl
@[simp] theorem State.onTxn_image : (s.onTxn id f).image = s.image := rfl
@[simp] theorem State.onTxn_faults : (s.onTxn id f).faults = s.faults := rfl
@[simp] theorem State.onTxn_survey : (s.onTxn id f).survey = s.survey := rfl
@[simp] theorem State.onTxn_notices : (s.onTxn id f).notices = s.notices := rfl
@[simp] theorem State.onTxn_host : (s.onTxn id f).host = s.host := rfl
@[simp] theorem State.onTxn_now : (s.onTxn id f).now = s.now := rfl
@[simp] theorem State.onTxn_pending : (s.onTxn id f).pending = s.pending := rfl

end onTxn

section endTxn
variable (t : Txn) (code : ResultCode) (detail : Option Nat) (data : Option (List Byte))

@[simp] theorem State.endTxn_roster : (s.endTxn t code detail data).roster = s.roster := rfl
@[simp] theorem State.endTxn_stations : (s.endTxn t code detail data).stations = s.stations := rfl
@[simp] theorem State.endTxn_sweep : (s.endTxn t code detail data).sweep = s.sweep := rfl
@[simp] theorem State.endTxn_engine : (s.endTxn t code detail data).engine = s.engine := rfl
@[simp] theorem State.endTxn_image : (s.endTxn t code detail data).image = s.image := rfl
@[simp] theorem State.endTxn_faults : (s.endTxn t code detail data).faults = s.faults := rfl
@[simp] theorem State.endTxn_survey : (s.endTxn t code detail data).survey = s.survey := rfl
@[simp] theorem State.endTxn_host : (s.endTxn t code detail data).host = s.host := rfl
@[simp] theorem State.endTxn_now : (s.endTxn t code detail data).now = s.now := rfl
@[simp] theorem State.endTxn_pending : (s.endTxn t code detail data).pending = s.pending := rfl

end endTxn

/-- What every ending of a record keeps, a hand-off that ends many keeps (R134). -/
theorem State.endTxns_keeps {α : Type} (π : State → α)
    (h : ∀ s t code, π (State.endTxn t code none none s) = π s) (p : Txn → Bool)
    (code : ResultCode) : π (s.endTxns p code) = π s := by
  unfold State.endTxns
  generalize s.requests.records.filter (fun t => t.live && p t) = l
  induction l generalizing s with
  | nil => rfl
  | cons t l ih => rw [List.foldl_cons, ih, h]

section endTxns
variable (p : Txn → Bool) (code : ResultCode)

@[simp] theorem State.endTxns_roster : (s.endTxns p code).roster = s.roster := 
  s.endTxns_keeps (·.roster) (fun _ _ _ => rfl) p code
@[simp] theorem State.endTxns_stations : (s.endTxns p code).stations = s.stations := 
  s.endTxns_keeps (·.stations) (fun _ _ _ => rfl) p code
@[simp] theorem State.endTxns_sweep : (s.endTxns p code).sweep = s.sweep := 
  s.endTxns_keeps (·.sweep) (fun _ _ _ => rfl) p code
@[simp] theorem State.endTxns_engine : (s.endTxns p code).engine = s.engine := 
  s.endTxns_keeps (·.engine) (fun _ _ _ => rfl) p code
@[simp] theorem State.endTxns_image : (s.endTxns p code).image = s.image := 
  s.endTxns_keeps (·.image) (fun _ _ _ => rfl) p code
@[simp] theorem State.endTxns_faults : (s.endTxns p code).faults = s.faults := 
  s.endTxns_keeps (·.faults) (fun _ _ _ => rfl) p code
@[simp] theorem State.endTxns_survey : (s.endTxns p code).survey = s.survey := 
  s.endTxns_keeps (·.survey) (fun _ _ _ => rfl) p code
@[simp] theorem State.endTxns_host : (s.endTxns p code).host = s.host := 
  s.endTxns_keeps (·.host) (fun _ _ _ => rfl) p code
@[simp] theorem State.endTxns_now : (s.endTxns p code).now = s.now := 
  s.endTxns_keeps (·.now) (fun _ _ _ => rfl) p code
@[simp] theorem State.endTxns_pending : (s.endTxns p code).pending = s.pending := 
  s.endTxns_keeps (·.pending) (fun _ _ _ => rfl) p code

end endTxns

section clearMark
variable (a : Nat)

@[simp] theorem State.clearMark_roster : (s.clearMark a).roster = s.roster := rfl
@[simp] theorem State.clearMark_stations : (s.clearMark a).stations = s.stations := rfl
@[simp] theorem State.clearMark_sweep : (s.clearMark a).sweep = s.sweep := rfl
@[simp] theorem State.clearMark_engine : (s.clearMark a).engine = s.engine := rfl
@[simp] theorem State.clearMark_image : (s.clearMark a).image = s.image := rfl
@[simp] theorem State.clearMark_faults : (s.clearMark a).faults = s.faults := rfl
@[simp] theorem State.clearMark_survey : (s.clearMark a).survey = s.survey := rfl
@[simp] theorem State.clearMark_notices : (s.clearMark a).notices = s.notices := rfl
@[simp] theorem State.clearMark_host : (s.clearMark a).host = s.host := rfl
@[simp] theorem State.clearMark_now : (s.clearMark a).now = s.now := rfl
@[simp] theorem State.clearMark_pending : (s.clearMark a).pending = s.pending := rfl

end clearMark

section setMark
variable (a : Nat) (on : Bool)

@[simp] theorem State.setMark_roster : (s.setMark a on).roster = s.roster := rfl
@[simp] theorem State.setMark_stations : (s.setMark a on).stations = s.stations := rfl
@[simp] theorem State.setMark_sweep : (s.setMark a on).sweep = s.sweep := rfl
@[simp] theorem State.setMark_engine : (s.setMark a on).engine = s.engine := rfl
@[simp] theorem State.setMark_image : (s.setMark a on).image = s.image := rfl
@[simp] theorem State.setMark_faults : (s.setMark a on).faults = s.faults := rfl
@[simp] theorem State.setMark_survey : (s.setMark a on).survey = s.survey := rfl
@[simp] theorem State.setMark_notices : (s.setMark a on).notices = s.notices := rfl
@[simp] theorem State.setMark_host : (s.setMark a on).host = s.host := rfl
@[simp] theorem State.setMark_now : (s.setMark a on).now = s.now := rfl
@[simp] theorem State.setMark_pending : (s.setMark a on).pending = s.pending := rfl

end setMark

section depart
variable (a : Nat)

@[simp] theorem State.depart_roster : (s.depart a).roster = s.roster := by simp [State.depart]
@[simp] theorem State.depart_stations : (s.depart a).stations = s.stations := by simp [State.depart]
@[simp] theorem State.depart_sweep : (s.depart a).sweep = s.sweep := by simp [State.depart]
@[simp] theorem State.depart_engine : (s.depart a).engine = s.engine := by simp [State.depart]
@[simp] theorem State.depart_image : (s.depart a).image = s.image := by simp [State.depart]
@[simp] theorem State.depart_faults : (s.depart a).faults = s.faults := by simp [State.depart]
@[simp] theorem State.depart_survey : (s.depart a).survey = s.survey := by simp [State.depart]
@[simp] theorem State.depart_host : (s.depart a).host = s.host := by simp [State.depart]
@[simp] theorem State.depart_now : (s.depart a).now = s.now := by simp [State.depart]
@[simp] theorem State.depart_pending : (s.depart a).pending = s.pending := by simp [State.depart]

end depart

section announce
variable (a : Nat) (before : Option StationState)

@[simp] theorem State.announce_roster : (s.announce a before).roster = s.roster := by
  unfold State.announce; (repeat' split) <;> rfl
@[simp] theorem State.announce_stations : (s.announce a before).stations = s.stations := by
  unfold State.announce; (repeat' split) <;> rfl
@[simp] theorem State.announce_sweep : (s.announce a before).sweep = s.sweep := by
  unfold State.announce; (repeat' split) <;> rfl
@[simp] theorem State.announce_engine : (s.announce a before).engine = s.engine := by
  unfold State.announce; (repeat' split) <;> rfl
@[simp] theorem State.announce_image : (s.announce a before).image = s.image := by
  unfold State.announce; (repeat' split) <;> rfl
@[simp] theorem State.announce_requests : (s.announce a before).requests = s.requests := by
  unfold State.announce; (repeat' split) <;> rfl
@[simp] theorem State.announce_faults : (s.announce a before).faults = s.faults := by
  unfold State.announce; (repeat' split) <;> rfl
@[simp] theorem State.announce_survey : (s.announce a before).survey = s.survey := by
  unfold State.announce; (repeat' split) <;> rfl
@[simp] theorem State.announce_host : (s.announce a before).host = s.host := by
  unfold State.announce; (repeat' split) <;> rfl
@[simp] theorem State.announce_now : (s.announce a before).now = s.now := by
  unfold State.announce; (repeat' split) <;> rfl
@[simp] theorem State.announce_pending : (s.announce a before).pending = s.pending := by
  unfold State.announce; (repeat' split) <;> rfl

end announce

section setLine
variable (l : LineState)

@[simp] theorem State.setLine_roster : (s.setLine l).roster = s.roster := rfl
@[simp] theorem State.setLine_stations : (s.setLine l).stations = s.stations := rfl
@[simp] theorem State.setLine_engine : (s.setLine l).engine = s.engine := rfl
@[simp] theorem State.setLine_image : (s.setLine l).image = s.image := rfl
@[simp] theorem State.setLine_requests : (s.setLine l).requests = s.requests := rfl
@[simp] theorem State.setLine_faults : (s.setLine l).faults = s.faults := rfl
@[simp] theorem State.setLine_survey : (s.setLine l).survey = s.survey := rfl
@[simp] theorem State.setLine_host : (s.setLine l).host = s.host := rfl
@[simp] theorem State.setLine_now : (s.setLine l).now = s.now := rfl
@[simp] theorem State.setLine_pending : (s.setLine l).pending = s.pending := rfl

end setLine

section hold
variable (h : Held)

@[simp] theorem State.hold_roster : (s.hold h).roster = s.roster := rfl
@[simp] theorem State.hold_stations : (s.hold h).stations = s.stations := rfl
@[simp] theorem State.hold_sweep : (s.hold h).sweep = s.sweep := rfl
@[simp] theorem State.hold_engine : (s.hold h).engine = s.engine := rfl
@[simp] theorem State.hold_image : (s.hold h).image = s.image := rfl
@[simp] theorem State.hold_requests : (s.hold h).requests = s.requests := rfl
@[simp] theorem State.hold_faults : (s.hold h).faults = s.faults := rfl
@[simp] theorem State.hold_survey : (s.hold h).survey = s.survey := rfl
@[simp] theorem State.hold_notices : (s.hold h).notices = s.notices := rfl
@[simp] theorem State.hold_now : (s.hold h).now = s.now := rfl
@[simp] theorem State.hold_pending : (s.hold h).pending = s.pending := rfl

end hold

section handOver
variable (e : NoticeEntry)

@[simp] theorem State.handOver_roster : (s.handOver e).roster = s.roster := rfl
@[simp] theorem State.handOver_stations : (s.handOver e).stations = s.stations := rfl
@[simp] theorem State.handOver_sweep : (s.handOver e).sweep = s.sweep := rfl
@[simp] theorem State.handOver_engine : (s.handOver e).engine = s.engine := rfl
@[simp] theorem State.handOver_image : (s.handOver e).image = s.image := rfl
@[simp] theorem State.handOver_requests : (s.handOver e).requests = s.requests := rfl
@[simp] theorem State.handOver_faults : (s.handOver e).faults = s.faults := rfl
@[simp] theorem State.handOver_survey : (s.handOver e).survey = s.survey := rfl
@[simp] theorem State.handOver_now : (s.handOver e).now = s.now := rfl
@[simp] theorem State.handOver_pending : (s.handOver e).pending = s.pending := rfl

end handOver

section pump

@[simp] theorem State.pump_roster : (s.pump).roster = s.roster := by
  unfold State.pump; (repeat' split) <;> rfl
@[simp] theorem State.pump_stations : (s.pump).stations = s.stations := by
  unfold State.pump; (repeat' split) <;> rfl
@[simp] theorem State.pump_sweep : (s.pump).sweep = s.sweep := by
  unfold State.pump; (repeat' split) <;> rfl
@[simp] theorem State.pump_engine : (s.pump).engine = s.engine := by
  unfold State.pump; (repeat' split) <;> rfl
@[simp] theorem State.pump_image : (s.pump).image = s.image := by
  unfold State.pump; (repeat' split) <;> rfl
@[simp] theorem State.pump_requests : (s.pump).requests = s.requests := by
  unfold State.pump; (repeat' split) <;> rfl
@[simp] theorem State.pump_faults : (s.pump).faults = s.faults := by
  unfold State.pump; (repeat' split) <;> rfl
@[simp] theorem State.pump_survey : (s.pump).survey = s.survey := by
  unfold State.pump; (repeat' split) <;> rfl
@[simp] theorem State.pump_now : (s.pump).now = s.now := by
  unfold State.pump; (repeat' split) <;> rfl
@[simp] theorem State.pump_pending : (s.pump).pending = s.pending := by
  unfold State.pump; (repeat' split) <;> rfl

end pump

section listOverflow
variable (tag kind : Byte)

@[simp] theorem State.listOverflow_roster : (s.listOverflow tag kind).roster = s.roster := rfl
@[simp] theorem State.listOverflow_stations : (s.listOverflow tag kind).stations = s.stations := rfl
@[simp] theorem State.listOverflow_sweep : (s.listOverflow tag kind).sweep = s.sweep := rfl
@[simp] theorem State.listOverflow_engine : (s.listOverflow tag kind).engine = s.engine := rfl
@[simp] theorem State.listOverflow_image : (s.listOverflow tag kind).image = s.image := rfl
@[simp] theorem State.listOverflow_requests : (s.listOverflow tag kind).requests = s.requests := rfl
@[simp] theorem State.listOverflow_faults : (s.listOverflow tag kind).faults = s.faults := rfl
@[simp] theorem State.listOverflow_survey : (s.listOverflow tag kind).survey = s.survey := rfl
@[simp] theorem State.listOverflow_notices : (s.listOverflow tag kind).notices = s.notices := rfl
@[simp] theorem State.listOverflow_now : (s.listOverflow tag kind).now = s.now := rfl
@[simp] theorem State.listOverflow_pending : (s.listOverflow tag kind).pending = s.pending := rfl

end listOverflow

section countLine
variable (f : LineCounters → LineCounters)

@[simp] theorem State.countLine_roster : (s.countLine f).roster = s.roster := rfl
@[simp] theorem State.countLine_stations : (s.countLine f).stations = s.stations := rfl
@[simp] theorem State.countLine_sweep : (s.countLine f).sweep = s.sweep := rfl
@[simp] theorem State.countLine_image : (s.countLine f).image = s.image := rfl
@[simp] theorem State.countLine_requests : (s.countLine f).requests = s.requests := rfl
@[simp] theorem State.countLine_faults : (s.countLine f).faults = s.faults := rfl
@[simp] theorem State.countLine_survey : (s.countLine f).survey = s.survey := rfl
@[simp] theorem State.countLine_notices : (s.countLine f).notices = s.notices := rfl
@[simp] theorem State.countLine_host : (s.countLine f).host = s.host := rfl
@[simp] theorem State.countLine_now : (s.countLine f).now = s.now := rfl
@[simp] theorem State.countLine_pending : (s.countLine f).pending = s.pending := rfl

end countLine

section startGuard
variable (endedAt : Nat)

@[simp] theorem State.startGuard_roster : (s.startGuard endedAt).roster = s.roster := rfl
@[simp] theorem State.startGuard_stations : (s.startGuard endedAt).stations = s.stations := rfl
@[simp] theorem State.startGuard_sweep : (s.startGuard endedAt).sweep = s.sweep := rfl
@[simp] theorem State.startGuard_image : (s.startGuard endedAt).image = s.image := rfl
@[simp] theorem State.startGuard_requests : (s.startGuard endedAt).requests = s.requests := rfl
@[simp] theorem State.startGuard_faults : (s.startGuard endedAt).faults = s.faults := rfl
@[simp] theorem State.startGuard_survey : (s.startGuard endedAt).survey = s.survey := rfl
@[simp] theorem State.startGuard_notices : (s.startGuard endedAt).notices = s.notices := rfl
@[simp] theorem State.startGuard_host : (s.startGuard endedAt).host = s.host := rfl
@[simp] theorem State.startGuard_now : (s.startGuard endedAt).now = s.now := rfl
@[simp] theorem State.startGuard_pending : (s.startGuard endedAt).pending = s.pending := rfl

end startGuard

section dropExchange

@[simp] theorem State.dropExchange_roster : (s.dropExchange).roster = s.roster := rfl
@[simp] theorem State.dropExchange_stations : (s.dropExchange).stations = s.stations := rfl
@[simp] theorem State.dropExchange_sweep : (s.dropExchange).sweep = s.sweep := rfl
@[simp] theorem State.dropExchange_image : (s.dropExchange).image = s.image := rfl
@[simp] theorem State.dropExchange_requests : (s.dropExchange).requests = s.requests := rfl
@[simp] theorem State.dropExchange_faults : (s.dropExchange).faults = s.faults := rfl
@[simp] theorem State.dropExchange_survey : (s.dropExchange).survey = s.survey := rfl
@[simp] theorem State.dropExchange_notices : (s.dropExchange).notices = s.notices := rfl
@[simp] theorem State.dropExchange_host : (s.dropExchange).host = s.host := rfl
@[simp] theorem State.dropExchange_now : (s.dropExchange).now = s.now := rfl
@[simp] theorem State.dropExchange_pending : (s.dropExchange).pending = s.pending := rfl

end dropExchange

section abandon

@[simp] theorem State.abandon_roster : (s.abandon).roster = s.roster := rfl
@[simp] theorem State.abandon_stations : (s.abandon).stations = s.stations := rfl
@[simp] theorem State.abandon_sweep : (s.abandon).sweep = s.sweep := rfl
@[simp] theorem State.abandon_image : (s.abandon).image = s.image := rfl
@[simp] theorem State.abandon_requests : (s.abandon).requests = s.requests := rfl
@[simp] theorem State.abandon_faults : (s.abandon).faults = s.faults := rfl
@[simp] theorem State.abandon_survey : (s.abandon).survey = s.survey := rfl
@[simp] theorem State.abandon_notices : (s.abandon).notices = s.notices := rfl
@[simp] theorem State.abandon_host : (s.abandon).host = s.host := rfl
@[simp] theorem State.abandon_now : (s.abandon).now = s.now := rfl
@[simp] theorem State.abandon_pending : (s.abandon).pending = s.pending := rfl

end abandon

section beginAttempt
variable (x : Exchange)

@[simp] theorem State.beginAttempt_roster : (s.beginAttempt x).roster = s.roster := rfl
@[simp] theorem State.beginAttempt_stations : (s.beginAttempt x).stations = s.stations := rfl
@[simp] theorem State.beginAttempt_sweep : (s.beginAttempt x).sweep = s.sweep := rfl
@[simp] theorem State.beginAttempt_image : (s.beginAttempt x).image = s.image := rfl
@[simp] theorem State.beginAttempt_requests : (s.beginAttempt x).requests = s.requests := rfl
@[simp] theorem State.beginAttempt_faults : (s.beginAttempt x).faults = s.faults := rfl
@[simp] theorem State.beginAttempt_survey : (s.beginAttempt x).survey = s.survey := rfl
@[simp] theorem State.beginAttempt_notices : (s.beginAttempt x).notices = s.notices := rfl
@[simp] theorem State.beginAttempt_host : (s.beginAttempt x).host = s.host := rfl
@[simp] theorem State.beginAttempt_now : (s.beginAttempt x).now = s.now := rfl
@[simp] theorem State.beginAttempt_pending : (s.beginAttempt x).pending = s.pending := rfl

end beginAttempt

section hand
variable (x : Exchange)

@[simp] theorem State.hand_roster : (s.hand x).roster = s.roster := by
  unfold State.hand; dsimp only; split <;> rfl
@[simp] theorem State.hand_stations : (s.hand x).stations = s.stations := by
  unfold State.hand; dsimp only; split <;> rfl
@[simp] theorem State.hand_sweep : (s.hand x).sweep = s.sweep := by
  unfold State.hand; dsimp only; split <;> rfl
@[simp] theorem State.hand_image : (s.hand x).image = s.image := by
  unfold State.hand; dsimp only; split <;> rfl
@[simp] theorem State.hand_requests : (s.hand x).requests = s.requests := by
  unfold State.hand; dsimp only; split <;> rfl
@[simp] theorem State.hand_faults : (s.hand x).faults = s.faults := by
  unfold State.hand; dsimp only; split <;> rfl
@[simp] theorem State.hand_survey : (s.hand x).survey = s.survey := by
  unfold State.hand; dsimp only; split <;> rfl
@[simp] theorem State.hand_notices : (s.hand x).notices = s.notices := by
  unfold State.hand; dsimp only; split <;> rfl
@[simp] theorem State.hand_host : (s.hand x).host = s.host := by
  unfold State.hand; dsimp only; split <;> rfl
@[simp] theorem State.hand_now : (s.hand x).now = s.now := by
  unfold State.hand; dsimp only; split <;> rfl
@[simp] theorem State.hand_pending : (s.hand x).pending = s.pending := by
  unfold State.hand; dsimp only; split <;> rfl

end hand

section latch

@[simp] theorem State.latch_roster : (s.latch).roster = s.roster := rfl
@[simp] theorem State.latch_stations : (s.latch).stations = s.stations := rfl
@[simp] theorem State.latch_engine : (s.latch).engine = s.engine := rfl
@[simp] theorem State.latch_requests : (s.latch).requests = s.requests := rfl
@[simp] theorem State.latch_faults : (s.latch).faults = s.faults := rfl
@[simp] theorem State.latch_survey : (s.latch).survey = s.survey := rfl
@[simp] theorem State.latch_notices : (s.latch).notices = s.notices := rfl
@[simp] theorem State.latch_host : (s.latch).host = s.host := rfl
@[simp] theorem State.latch_now : (s.latch).now = s.now := rfl
@[simp] theorem State.latch_pending : (s.latch).pending = s.pending := rfl

end latch

section publish
variable (cut : Bool)

@[simp] theorem State.publish_roster : (s.publish cut).roster = s.roster := rfl
@[simp] theorem State.publish_stations : (s.publish cut).stations = s.stations := rfl
@[simp] theorem State.publish_sweep : (s.publish cut).sweep = s.sweep := rfl
@[simp] theorem State.publish_engine : (s.publish cut).engine = s.engine := rfl
@[simp] theorem State.publish_requests : (s.publish cut).requests = s.requests := rfl
@[simp] theorem State.publish_faults : (s.publish cut).faults = s.faults := rfl
@[simp] theorem State.publish_survey : (s.publish cut).survey = s.survey := rfl
@[simp] theorem State.publish_notices : (s.publish cut).notices = s.notices := rfl
@[simp] theorem State.publish_host : (s.publish cut).host = s.host := rfl
@[simp] theorem State.publish_now : (s.publish cut).now = s.now := rfl
@[simp] theorem State.publish_pending : (s.publish cut).pending = s.pending := rfl

end publish

section lineDown

@[simp] theorem State.lineDown_roster : (s.lineDown).roster = s.roster := by simp [State.lineDown]
@[simp] theorem State.lineDown_stations : (s.lineDown).stations = s.stations := by simp [State.lineDown]
@[simp] theorem State.lineDown_sweep : (s.lineDown).sweep = s.sweep := by simp [State.lineDown]
@[simp] theorem State.lineDown_engine : (s.lineDown).engine = s.engine := by simp [State.lineDown]
@[simp] theorem State.lineDown_image : (s.lineDown).image = s.image := by simp [State.lineDown]
@[simp] theorem State.lineDown_faults : (s.lineDown).faults = s.faults := by simp [State.lineDown]
@[simp] theorem State.lineDown_survey : (s.lineDown).survey = s.survey := by simp [State.lineDown]
@[simp] theorem State.lineDown_host : (s.lineDown).host = s.host := by simp [State.lineDown]
@[simp] theorem State.lineDown_now : (s.lineDown).now = s.now := by simp [State.lineDown]
@[simp] theorem State.lineDown_pending : (s.lineDown).pending = s.pending := by simp [State.lineDown]

end lineDown

section goReady

@[simp] theorem State.goReady_roster : (s.goReady).roster = s.roster := rfl
@[simp] theorem State.goReady_stations : (s.goReady).stations = s.stations := rfl
@[simp] theorem State.goReady_engine : (s.goReady).engine = s.engine := rfl
@[simp] theorem State.goReady_image : (s.goReady).image = s.image := rfl
@[simp] theorem State.goReady_requests : (s.goReady).requests = s.requests := rfl
@[simp] theorem State.goReady_faults : (s.goReady).faults = s.faults := rfl
@[simp] theorem State.goReady_survey : (s.goReady).survey = s.survey := rfl
@[simp] theorem State.goReady_host : (s.goReady).host = s.host := rfl
@[simp] theorem State.goReady_now : (s.goReady).now = s.now := rfl
@[simp] theorem State.goReady_pending : (s.goReady).pending = s.pending := rfl

end goReady

section close
variable (c : Closing)

@[simp] theorem State.close_roster : (s.close c).roster = s.roster := rfl
@[simp] theorem State.close_stations : (s.close c).stations = s.stations := rfl
@[simp] theorem State.close_engine : (s.close c).engine = s.engine := rfl
@[simp] theorem State.close_image : (s.close c).image = s.image := rfl
@[simp] theorem State.close_requests : (s.close c).requests = s.requests := rfl
@[simp] theorem State.close_faults : (s.close c).faults = s.faults := rfl
@[simp] theorem State.close_survey : (s.close c).survey = s.survey := rfl
@[simp] theorem State.close_notices : (s.close c).notices = s.notices := rfl
@[simp] theorem State.close_host : (s.close c).host = s.host := rfl
@[simp] theorem State.close_now : (s.close c).now = s.now := rfl
@[simp] theorem State.close_pending : (s.close c).pending = s.pending := rfl

end close

section finishSurvey
variable (st : SurveyStatus)

@[simp] theorem State.finishSurvey_roster : (s.finishSurvey st).roster = s.roster := rfl
@[simp] theorem State.finishSurvey_stations : (s.finishSurvey st).stations = s.stations := rfl
@[simp] theorem State.finishSurvey_sweep : (s.finishSurvey st).sweep = s.sweep := rfl
@[simp] theorem State.finishSurvey_engine : (s.finishSurvey st).engine = s.engine := rfl
@[simp] theorem State.finishSurvey_image : (s.finishSurvey st).image = s.image := rfl
@[simp] theorem State.finishSurvey_requests : (s.finishSurvey st).requests = s.requests := rfl
@[simp] theorem State.finishSurvey_faults : (s.finishSurvey st).faults = s.faults := rfl
@[simp] theorem State.finishSurvey_host : (s.finishSurvey st).host = s.host := rfl
@[simp] theorem State.finishSurvey_now : (s.finishSurvey st).now = s.now := rfl
@[simp] theorem State.finishSurvey_pending : (s.finishSurvey st).pending = s.pending := rfl

end finishSurvey

section reportAttempt
variable (x : Exchange) (r : Option FailureKind)

@[simp] theorem State.reportAttempt_roster : (s.reportAttempt x r).roster = s.roster := by
  unfold State.reportAttempt; split <;> rfl
@[simp] theorem State.reportAttempt_sweep : (s.reportAttempt x r).sweep = s.sweep := by
  unfold State.reportAttempt; split <;> rfl
@[simp] theorem State.reportAttempt_engine : (s.reportAttempt x r).engine = s.engine := by
  unfold State.reportAttempt; split <;> rfl
@[simp] theorem State.reportAttempt_image : (s.reportAttempt x r).image = s.image := by
  unfold State.reportAttempt; split <;> rfl
@[simp] theorem State.reportAttempt_requests : (s.reportAttempt x r).requests = s.requests := by
  unfold State.reportAttempt; split <;> rfl
@[simp] theorem State.reportAttempt_faults : (s.reportAttempt x r).faults = s.faults := by
  unfold State.reportAttempt; split <;> rfl
@[simp] theorem State.reportAttempt_survey : (s.reportAttempt x r).survey = s.survey := by
  unfold State.reportAttempt; split <;> rfl
@[simp] theorem State.reportAttempt_notices : (s.reportAttempt x r).notices = s.notices := by
  unfold State.reportAttempt; split <;> rfl
@[simp] theorem State.reportAttempt_host : (s.reportAttempt x r).host = s.host := by
  unfold State.reportAttempt; split <;> rfl
@[simp] theorem State.reportAttempt_now : (s.reportAttempt x r).now = s.now := by
  unfold State.reportAttempt; split <;> rfl
@[simp] theorem State.reportAttempt_pending : (s.reportAttempt x r).pending = s.pending := by
  unfold State.reportAttempt; split <;> rfl

end reportAttempt

section openWindow
variable (a : Attempt)

@[simp] theorem State.openWindow_roster : (s.openWindow a).roster = s.roster := rfl
@[simp] theorem State.openWindow_stations : (s.openWindow a).stations = s.stations := rfl
@[simp] theorem State.openWindow_sweep : (s.openWindow a).sweep = s.sweep := rfl
@[simp] theorem State.openWindow_image : (s.openWindow a).image = s.image := rfl
@[simp] theorem State.openWindow_requests : (s.openWindow a).requests = s.requests := rfl
@[simp] theorem State.openWindow_faults : (s.openWindow a).faults = s.faults := rfl
@[simp] theorem State.openWindow_survey : (s.openWindow a).survey = s.survey := rfl
@[simp] theorem State.openWindow_notices : (s.openWindow a).notices = s.notices := rfl
@[simp] theorem State.openWindow_host : (s.openWindow a).host = s.host := rfl
@[simp] theorem State.openWindow_now : (s.openWindow a).now = s.now := rfl
@[simp] theorem State.openWindow_pending : (s.openWindow a).pending = s.pending := rfl

end openWindow

/-! ## What the parts of a sweep and of an attempt leave, in the terms of the claims -/

/-- A master frame has six characters beside its payload (R76). -/
theorem Exchange.bytes_length (x : Exchange) : x.bytes.length = x.payload.length + 6 := by
  simp [Exchange.bytes, runBytes, bytes1, crcBytes]

/-- An idle engine with no frame being taken begins the attempt at once (R80). -/
theorem State.hand_idle {s : State} (hi : s.engine.state = .idle) (hf : s.engine.frame = none)
    (x : Exchange) :
    s.hand x = (s.onEngine fun e => { e with exchange := some x }).beginAttempt x := by
  unfold State.hand
  rw [hi, hf]
  rfl

/-- An engine in another state, or one taking a frame, holds the exchange (R80, R92). -/
theorem State.hand_held {s : State} (h : s.engine.state ≠ .idle ∨ s.engine.frame.isSome = true)
    (x : Exchange) : s.hand x = s.onEngine fun e => { e with exchange := some x } := by
  unfold State.hand
  rcases h with h | h
  · have hn : (s.engine.state == EngineState.idle) = false := beq_false_of_ne h
    simp [hn]
  · obtain ⟨f, hf⟩ := Option.isSome_iff_exists.mp h
    simp [hf]

/-- The Latch (R61, R67, R99). -/
theorem State.latch_eq : s.latch = s.afterLatch := rfl

/-- One image's publication (R104). -/
theorem Image.publish_eq (n : Word) (i : Image) : i.publish n = i.afterPublication n := by
  unfold Image.publish Image.afterPublication
  cases i.lastFresh <;> rfl

/-- A publication (R104). -/
theorem State.publish_eq (cut : Bool) : s.publish cut =
    { s with image := s.image.afterPublication s.sweep.number cut } := by
  have h : Image.publish s.sweep.number = (·.afterPublication s.sweep.number) :=
    funext fun i => i.publish_eq _
  unfold State.publish State.onImage ImageStore.afterPublication
  rw [h]

/-- The line gone to READY (R53, R57, R58). -/
theorem State.goReady_eq : s.goReady = s.afterReady := rfl

/-- The engine after a judged attempt whose exchange is ended (R84, R85, R94). -/
theorem State.judged_engine (k : Option FailureKind) (endedAt : Nat) :
    ((s.countLine (countResult k)).startGuard endedAt).dropExchange.engine =
      s.engine.afterAttempt k (endedAt + 4 * s.charCycles) none := by
  cases k with
  | none => rfl
  | some k => cases k <;> rfl

/-- One attempt's report (R27). -/
theorem Station.report_eq (k : Option FailureKind) (t : Station) :
    t.report k = t.afterAttempt k := by
  cases k with
  | none => rfl
  | some k => cases k <;> rfl

/-- The records after an attempt report (R27, R83). -/
theorem State.reportAttempt_stations {x : Exchange} (h : x.chooser.reports = true)
    (k : Option FailureKind) :
    (s.reportAttempt x k).stations = s.stationsWith x.address (·.afterAttempt k) := by
  have hk : (fun t : Station => t.report k) = (·.afterAttempt k) :=
    funext fun t => t.report_eq k
  unfold State.reportAttempt
  rw [if_pos h, hk]
  rfl

/-- The Probe phase sends one IDENT, or ends the sweep's exchanges (R64). -/
theorem State.probePhase_cases :
    (∃ a, s.probePhase = State.hand (identExchange .probe a 1)
      (s.onSweep fun c => { c with phase := .probe, probe := a })) ∨
    s.probePhase = s.onSweep fun c => { c with phase := .ending } := by
  unfold State.probePhase
  split
  · exact .inl ⟨_, rfl⟩
  · exact .inr rfl

/-- The Acyclic phase fills a slot, or goes on to PROBE (R63). -/
theorem State.acyclicPhase_cases :
    (∃ x, s.slotChoice = some x ∧ s.acyclicPhase =
      State.hand x (s.onSweep fun c => { c with slots := c.slots - 1 })) ∨
    s.acyclicPhase = s.probePhase := by
  unfold State.acyclicPhase
  split
  · exact .inr rfl
  · split
    · exact .inl ⟨_, by assumption, rfl⟩
    · exact .inr rfl

/-- The Cyclic phase serves a station, or goes on to ACYCLIC (R62). -/
theorem State.cyclicPhase_cases :
    (∃ e, s.nextCyclic = some e ∧ s.cyclicPhase = s.handCyclic e) ∨
    (s.nextCyclic = none ∧ s.cyclicPhase = s.startAcyclic) := by
  unfold State.cyclicPhase
  split
  · exact .inl ⟨_, by assumption, rfl⟩
  · exact .inr ⟨by assumption, rfl⟩

/-- An echo leaves the next one awaited, ends the transmission, or is a collision (R81, R91, R93). -/
theorem State.echo_cases (x : Exchange) (a : Attempt) (c : FieldChar) :
    let heard := s.at (s.echoStop x a)
    s.echo x a c = heard.onEngine (fun e =>
      { e with attempt := some { a with echoed := a.echoed + 1 } }) ∨
    s.echo x a c = heard.safeDone ∨ s.echo x a c = heard.openWindow a ∨
    s.echo x a c = heard.collision := by
  unfold State.echo
  dsimp only
  split
  · split
    · exact .inl rfl
    · split
      · exact .inr (.inl rfl)
      · exact .inr (.inr (.inl rfl))
  · exact .inr (.inr (.inr rfl))

/-- Ending records in turn sets exactly the records of their ids, and raises one notice each (R134, R135). -/
theorem State.endTxn_foldl (c : ResultCode) (l : List Txn) (s : State) :
    l.foldl (fun s t => s.endTxn t c none none) s =
      { s with
        requests := { s.requests with records := s.requests.records.map fun u =>
          if u.id ∈ (l.map (·.id)) then u.endedBy c s.sweep.number else u }
        notices := l.foldl (fun q u => q.take (.requestDone u.id c u.address none)) s.notices } := by
  induction l generalizing s with
  | nil => simp
  | cons t l ih =>
    rw [List.foldl_cons, ih]
    unfold State.endTxn State.raiseNotice State.onTxn State.onRequests State.onNotices Txn.endedBy
    simp only [List.map_map, List.foldl_cons, List.map_cons, List.mem_cons]
    congr 2
    refine List.map_congr_left fun u _ => ?_
    by_cases h : u.id = t.id
    · simp [h]
    · simp [h]

/-- A line that goes down ends every AWAITING record (R53, R134). -/
theorem State.lineDown_eq : s.lineDown = s.lineDowned := by
  have h : (fun t : Txn => t.live && t.isAwaiting) = fun t => t.state == .awaiting && true := by
    funext t; cases ht : t.state <;> simp [Txn.live, Txn.isAwaiting, ht]
  unfold State.lineDown State.endTxns State.lineDowned State.awaitingEnded
  rw [h, State.endTxn_foldl]

/-- A departure ends the station's AWAITING records and clears its mark (R38). -/
theorem State.depart_eq (a : Nat) : s.depart a = s.departed a := by
  have h : (fun t : Txn => t.live && (t.isAwaiting && t.address == a)) =
      fun t => t.state == .awaiting && t.address == a := by
    funext t; cases ht : t.state <;> simp [Txn.live, Txn.isAwaiting, ht]
  unfold State.depart State.endTxns State.departed State.awaitingEnded
  rw [h, State.endTxn_foldl]
  rfl

/-- Where no two records have one id, the id names the record (R116). -/
theorem Txn.eq_of_id {l : List Txn} (h : (l.map (·.id)).Nodup) {u v : Txn} (hu : u ∈ l) (hv : v ∈ l)
    (e : v.id = u.id) : v = u := by
  induction l with
  | nil => exact nomatch hu
  | cons t l ih =>
    obtain ⟨hn, h⟩ := List.nodup_cons.1 h
    rcases List.mem_cons.1 hu with rfl | hu' <;> rcases List.mem_cons.1 hv with rfl | hv'
    · rfl
    · exact (hn (List.mem_map.2 ⟨v, hv', e⟩)).elim
    · exact (hn (List.mem_map.2 ⟨u, hu', e.symm⟩)).elim
    · exact ih h hu' hv'

/-- Where no two records have one id, exactly the AWAITING ones named are ended, in their places. -/
theorem State.awaitingEnded_records (h : (s.requests.records.map (·.id)).Nodup) (p : Nat → Bool)
    (c : ResultCode) : (s.awaitingEnded p c).requests.records = s.requests.records.map fun u =>
      if u.state = .awaiting ∧ p u.address = true then u.endedBy c s.sweep.number else u := by
  refine List.map_congr_left fun u hu => ?_
  have key : u.id ∈ (s.requests.records.filter fun u => u.state == .awaiting && p u.address).map
      (·.id) ↔ u.state = .awaiting ∧ p u.address = true := by
    constructor
    · intro hm
      obtain ⟨v, hv, hid⟩ := List.mem_map.1 hm
      obtain ⟨hv, hp⟩ := List.mem_filter.1 hv
      obtain rfl := Txn.eq_of_id h hu hv hid
      simpa using hp
    · intro hp
      exact List.mem_map.2 ⟨u, List.mem_filter.2 ⟨hu, by simpa using hp⟩, rfl⟩
  simp only [key]

/-- A request's reply held and the transmitter's choice, in one (R176, R180). -/
theorem State.pump_hold (tag kind : Byte) (r : Reply) :
    (s.hold { overflow := false, tag := tag, kind := kind, reply := r }).pump =
      { s with host := s.host.holding tag kind r } := by
  obtain ⟨_, _, _, _, _, _, _, _, _, ⟨_, _, _, _, held, tx, _, _⟩, _, _⟩ := s
  cases tx <;> cases held <;> rfl

/-- A request that the Host Port takes: its owner answers on the counted state, and the reply is held
(R176 to R180). -/
theorem State.request_accepting {s : State} {tag : Byte} (h : s.Accepting tag) (kind : Byte)
    (owner : State → Answer) :
    s.request tag kind owner =
      let answer := owner { s with host := s.host.counted }
      { answer.1 with host := answer.1.host.holding tag kind answer.2 } := by
  obtain ⟨hopen, hplace, htag⟩ := h
  have hplace' : s.host.places < Config.maxPlaces := hplace
  unfold State.request State.acceptFrame
  rw [if_pos hopen, if_pos hplace', if_neg htag]
  exact State.pump_hold _ _ _ _

/-- A request passed over in PAUSED and CLOSED changes nothing (R176, R183, log 4). -/
theorem State.request_passed {s : State} (h : s.host.rx.open = false) (tag kind : Byte)
    (owner : State → Answer) : s.request tag kind owner = s := by
  unfold State.request
  rw [h]
  rfl

end Sys2Proof.Machine
end

