-- ==== Sys2Proof/Laws/PerInstr.lean ====
section
/-! SUPPORT. Spelled: a command has a request KIND exactly when it has a tag, one that has none has no
payload, and a well-formed request's payload fits a frame. One lemma per command. -/

namespace Sys2Proof.Laws.Spelled

/-- What the spelling of every command has (R174, R177, R178). -/
def Statement (i : Instr) : Prop :=
  i.requestKind.isSome = i.requestTag.isSome ∧
  (i.requestKind = none → i.requestPayload = []) ∧
  (i.wellFormed = true → i.requestPayload.length ≤ 250)

/-- A request's spelling, from its KIND, its tag and its payload's length. -/
theorem ofRequest {i : Instr} {k t : Byte} (hk : i.requestKind = some k) (ht : i.requestTag = some t)
    (hp : i.wellFormed = true → i.requestPayload.length ≤ 250) : Statement i :=
  ⟨by rw [hk, ht]; rfl, fun h => absurd (hk.symm.trans h) (by simp), hp⟩

/-- An event has no spelling. -/
theorem ofEvent {i : Instr} (hk : i.requestKind = none) (ht : i.requestTag = none)
    (hp : i.requestPayload = []) : Statement i :=
  ⟨by rw [hk, ht], fun _ => hp, fun _ => by rw [hp]; exact Nat.zero_le _⟩

/-- A run of one-byte fields is as long as its list. -/
theorem length_flatMap_bytes1 (l : List Nat) : (l.flatMap bytes1).length = l.length := by
  induction l with
  | nil => rfl
  | cons a l ih => simp only [List.flatMap_cons, List.length_append, ih, bytes1, List.length_cons,
    List.length_nil]; omega

/-- The items of WRITE_OUTPUTS take as many bytes as their lengths call for, beside the count. -/
theorem length_itemsLayout (items : List OutputItem) :
    (itemsLayout items).length + 1 = itemsLength items := by
  induction items with
  | nil => rfl
  | cons i l ih =>
    simp only [itemsLayout, itemsLength, List.flatMap_cons, List.length_append, List.foldr_cons,
      bytes1, List.length_singleton] at ih ⊢
    omega

/-- A roster entry takes 9 bytes, its pattern and its label (section 12.2). -/
theorem length_entryLayout (e : EntryArg) :
    e.layout.length = 9 + e.pattern.length + (e.label.elim 0 fun l => 1 + l.length) := by
  cases h : e.label <;> simp [EntryArg.layout, bytes1, bytes2, h] <;> omega

theorem identify (tag : Byte) : Statement (.identify tag) :=
  ofRequest rfl rfl fun _ => Nat.le_of_ble_eq_true rfl

theorem deviceReset (tag : Byte) : Statement (.deviceReset tag) :=
  ofRequest rfl rfl fun _ => Nat.le_of_ble_eq_true rfl

theorem setBaud (tag : Byte) (rate : Nat) : Statement (.setBaud tag rate) :=
  ofRequest rfl rfl fun _ => Nat.le_of_ble_eq_true rfl

theorem readCounters (tag : Byte) : Statement (.readCounters tag) :=
  ofRequest rfl rfl fun _ => Nat.le_of_ble_eq_true rfl

theorem clearCounters (tag : Byte) : Statement (.clearCounters tag) :=
  ofRequest rfl rfl fun _ => Nat.le_of_ble_eq_true rfl

theorem stagePut (tag : Byte) (entry : EntryArg) : Statement (.stagePut tag entry) :=
  ofRequest rfl rfl fun h => by
    have := length_entryLayout entry
    simp [Instr.wellFormed, EntryArg.wellFormed, fitsPayload] at h
    simp [Instr.requestPayload]; omega

theorem stageRemove (tag : Byte) (address : Nat) : Statement (.stageRemove tag address) :=
  ofRequest rfl rfl fun _ => Nat.le_of_ble_eq_true rfl

theorem stageClear (tag : Byte) : Statement (.stageClear tag) :=
  ofRequest rfl rfl fun _ => Nat.le_of_ble_eq_true rfl

theorem stageHeader (tag : Byte) (header : HeaderArg) : Statement (.stageHeader tag header) :=
  ofRequest rfl rfl fun _ => Nat.le_of_ble_eq_true rfl

theorem stageRevert (tag : Byte) : Statement (.stageRevert tag) :=
  ofRequest rfl rfl fun _ => Nat.le_of_ble_eq_true rfl

theorem readRosterSingle (tag : Byte) (source address : Nat) :
    Statement (.readRosterSingle tag source address) :=
  ofRequest rfl rfl fun _ => Nat.le_of_ble_eq_true rfl

theorem readRosterRun (tag : Byte) (source start : Nat) :
    Statement (.readRosterRun tag source start) :=
  ofRequest rfl rfl fun _ => Nat.le_of_ble_eq_true rfl

theorem commit (tag : Byte) : Statement (.commit tag) :=
  ofRequest rfl rfl fun _ => Nat.le_of_ble_eq_true rfl

theorem lineStart (tag : Byte) : Statement (.lineStart tag) :=
  ofRequest rfl rfl fun _ => Nat.le_of_ble_eq_true rfl

theorem lineStop (tag : Byte) : Statement (.lineStop tag) :=
  ofRequest rfl rfl fun _ => Nat.le_of_ble_eq_true rfl

theorem startSweep (tag : Byte) (mode value : Nat) : Statement (.startSweep tag mode value) :=
  ofRequest rfl rfl fun _ => Nat.le_of_ble_eq_true rfl

theorem stopSweep (tag : Byte) : Statement (.stopSweep tag) :=
  ofRequest rfl rfl fun _ => Nat.le_of_ble_eq_true rfl

theorem readSweepStatus (tag : Byte) : Statement (.readSweepStatus tag) :=
  ofRequest rfl rfl fun _ => Nat.le_of_ble_eq_true rfl

theorem startSurvey (tag : Byte) : Statement (.startSurvey tag) :=
  ofRequest rfl rfl fun _ => Nat.le_of_ble_eq_true rfl

theorem readSurvey (tag : Byte) (start compare : Nat) :
    Statement (.readSurvey tag start compare) :=
  ofRequest rfl rfl fun _ => Nat.le_of_ble_eq_true rfl

theorem disableStation (tag : Byte) (address : Nat) : Statement (.disableStation tag address) :=
  ofRequest rfl rfl fun _ => Nat.le_of_ble_eq_true rfl

theorem enableStation (tag : Byte) (address : Nat) : Statement (.enableStation tag address) :=
  ofRequest rfl rfl fun _ => Nat.le_of_ble_eq_true rfl

theorem readmit (tag : Byte) (address : Nat) : Statement (.readmit tag address) :=
  ofRequest rfl rfl fun _ => Nat.le_of_ble_eq_true rfl

theorem readStation (tag : Byte) (address : Nat) : Statement (.readStation tag address) :=
  ofRequest rfl rfl fun _ => Nat.le_of_ble_eq_true rfl

theorem readInputsList (tag : Byte) (addresses : List Nat) :
    Statement (.readInputsList tag addresses) :=
  ofRequest rfl rfl fun h => by
    simp [Instr.wellFormed, fitsPayload] at h
    simp only [Instr.requestPayload, List.length_append, length_flatMap_bytes1,
      List.length_singleton]
    omega

theorem readInputsRun (tag : Byte) (start : Nat) : Statement (.readInputsRun tag start) :=
  ofRequest rfl rfl fun _ => Nat.le_of_ble_eq_true rfl

theorem writeOutputs (tag : Byte) (items : List OutputItem) :
    Statement (.writeOutputs tag items) :=
  ofRequest rfl rfl fun h => by
    have := length_itemsLayout items
    simp [Instr.wellFormed, fitsPayload] at h
    simp [Instr.requestPayload, bytes1]; omega

theorem readOutputsList (tag : Byte) (addresses : List Nat) :
    Statement (.readOutputsList tag addresses) :=
  ofRequest rfl rfl fun h => by
    simp [Instr.wellFormed, fitsPayload] at h
    simp only [Instr.requestPayload, List.length_append, length_flatMap_bytes1,
      List.length_singleton]
    omega

theorem readOutputsRun (tag : Byte) (start : Nat) : Statement (.readOutputsRun tag start) :=
  ofRequest rfl rfl fun _ => Nat.le_of_ble_eq_true rfl

theorem setLease (tag : Byte) (period : Nat) : Statement (.setLease tag period) :=
  ofRequest rfl rfl fun _ => Nat.le_of_ble_eq_true rfl

theorem renewLease (tag : Byte) : Statement (.renewLease tag) :=
  ofRequest rfl rfl fun _ => Nat.le_of_ble_eq_true rfl

theorem submit (tag : Byte) (arg : SubmitArg) : Statement (.submit tag arg) :=
  ofRequest rfl rfl fun h => by
    simp [Instr.wellFormed, SubmitArg.wellFormed, fitsPayload] at h
    simp [Instr.requestPayload, bytes1, bytes2]; omega

theorem queryRequest (tag : Byte) (id : Nat) : Statement (.queryRequest tag id) :=
  ofRequest rfl rfl fun _ => Nat.le_of_ble_eq_true rfl

theorem listRequests (tag : Byte) : Statement (.listRequests tag) :=
  ofRequest rfl rfl fun _ => Nat.le_of_ble_eq_true rfl

theorem fetchResult (tag : Byte) (id : Nat) : Statement (.fetchResult tag id) :=
  ofRequest rfl rfl fun _ => Nat.le_of_ble_eq_true rfl

theorem discardResult (tag : Byte) (id : Nat) : Statement (.discardResult tag id) :=
  ofRequest rfl rfl fun _ => Nat.le_of_ble_eq_true rfl

theorem cancel (tag : Byte) (id : Nat) : Statement (.cancel tag id) :=
  ofRequest rfl rfl fun _ => Nat.le_of_ble_eq_true rfl

theorem readFaults (tag : Byte) : Statement (.readFaults tag) :=
  ofRequest rfl rfl fun _ => Nat.le_of_ble_eq_true rfl

theorem ackFault (tag : Byte) (address code : Nat) : Statement (.ackFault tag address code) :=
  ofRequest rfl rfl fun _ => Nat.le_of_ble_eq_true rfl

theorem ackOldest (tag : Byte) : Statement (.ackOldest tag) :=
  ofRequest rfl rfl fun _ => Nat.le_of_ble_eq_true rfl

theorem clearFaults (tag : Byte) : Statement (.clearFaults tag) :=
  ofRequest rfl rfl fun _ => Nat.le_of_ble_eq_true rfl

theorem readCapture (tag : Byte) : Statement (.readCapture tag) :=
  ofRequest rfl rfl fun _ => Nat.le_of_ble_eq_true rfl

theorem clearCapture (tag : Byte) : Statement (.clearCapture tag) :=
  ofRequest rfl rfl fun _ => Nat.le_of_ble_eq_true rfl

theorem setNoticeClass (tag : Byte) (kind cls : Option Nat) :
    Statement (.setNoticeClass tag kind cls) :=
  ofRequest rfl rfl fun _ => by
    cases kind <;> cases cls <;> simp [Instr.requestPayload, bytes1]

theorem grantNotices (tag : Byte) (n : Nat) : Statement (.grantNotices tag n) :=
  ofRequest rfl rfl fun _ => Nat.le_of_ble_eq_true rfl

theorem withholdNotices (tag : Byte) : Statement (.withholdNotices tag) :=
  ofRequest rfl rfl fun _ => Nat.le_of_ble_eq_true rfl

theorem fetchNotice (tag : Byte) : Statement (.fetchNotice tag) :=
  ofRequest rfl rfl fun _ => Nat.le_of_ble_eq_true rfl

theorem hostFrameReceived (bytes : List Byte) : Statement (.hostFrameReceived bytes) :=
  ofEvent rfl rfl rfl

theorem hostGapExpiry : Statement (.hostGapExpiry) :=
  ofEvent rfl rfl rfl

theorem transmitComplete : Statement (.transmitComplete) :=
  ofEvent rfl rfl rfl

theorem powerOnReset (baudsel : Bool) : Statement (.powerOnReset baudsel) :=
  ofEvent rfl rfl rfl

theorem pinReset (baudsel : Bool) : Statement (.pinReset baudsel) :=
  ofEvent rfl rfl rfl

theorem quietIntervalExpiry : Statement (.quietIntervalExpiry) :=
  ofEvent rfl rfl rfl

theorem transmissionComplete : Statement (.transmissionComplete) :=
  ofEvent rfl rfl rfl

theorem echoCollision : Statement (.echoCollision) :=
  ofEvent rfl rfl rfl

theorem replyWindowExpiry : Statement (.replyWindowExpiry) :=
  ofEvent rfl rfl rfl

theorem replyFrameEnd (rest : List FieldChar) : Statement (.replyFrameEnd rest) :=
  ofEvent rfl rfl rfl

theorem fieldGapExpiry : Statement (.fieldGapExpiry) :=
  ofEvent rfl rfl rfl

theorem guardExpiry : Statement (.guardExpiry) :=
  ofEvent rfl rfl rfl

theorem unawaitedFrameEnd (rest : List FieldChar) : Statement (.unawaitedFrameEnd rest) :=
  ofEvent rfl rfl rfl

theorem safeComplete : Statement (.safeComplete) :=
  ofEvent rfl rfl rfl

theorem pacedWaitEnd : Statement (.pacedWaitEnd) :=
  ofEvent rfl rfl rfl

theorem leaseExpiry : Statement (.leaseExpiry) :=
  ofEvent rfl rfl rfl

theorem deadlineExpiry (id : Nat) : Statement (.deadlineExpiry id) :=
  ofEvent rfl rfl rfl

theorem fieldCharacterReceived (char : FieldChar) : Statement (.fieldCharacterReceived char) :=
  ofEvent rfl rfl rfl

theorem hostByteReceived (byte : Byte) (error : Bool) :
    Statement (.hostByteReceived byte error) :=
  ofEvent rfl rfl rfl

end Sys2Proof.Laws.Spelled
end

