-- ==== Sys2Proof/Tests/Slice0.lean ====
section
/-! SUPPORT. The model's own tests: ill-formed commands refused, the CRCs and layouts of spec/12, small
cases of the spec's worked examples, and a state that meets the hypotheses of each statement. -/

namespace Sys2Proof.Tests

open Sys2Proof Sys2Proof.Machine

-- One test after the other: each kernel evaluation that waits for those before it would hold a thread.
set_option Elab.async false

/-! ## Well-formedness: each check refuses -/

def entryArg : EntryArg :=
  { address := 1, classCode := 0, inWidth := 2, outWidth := 1, divisor := 1, missLimit := 2,
    mode := 2, startDisabled := false, spare := 0, pattern := [7#8], label := some [0x41#8] }

def headerArg : HeaderArg :=
  { mask := 31#8, speed := 1, window := 300, repeats := 1, budget := 2, policy := 0 }

def submitArg : SubmitArg := { address := 1, service := 3, deadline := 10, data := [9#8] }

theorem test_stage_put_address_refused :
    (Instr.stagePut 1#8 { entryArg with address := 256 }).wellFormed = false := by decide
theorem test_stage_put_class_refused :
    (Instr.stagePut 1#8 { entryArg with classCode := 65536 }).wellFormed = false := by decide
theorem test_stage_put_input_width_refused :
    (Instr.stagePut 1#8 { entryArg with inWidth := 256 }).wellFormed = false := by decide
theorem test_stage_put_output_width_refused :
    (Instr.stagePut 1#8 { entryArg with outWidth := 256 }).wellFormed = false := by decide
theorem test_stage_put_divisor_refused :
    (Instr.stagePut 1#8 { entryArg with divisor := 256 }).wellFormed = false := by decide
theorem test_stage_put_miss_limit_refused :
    (Instr.stagePut 1#8 { entryArg with missLimit := 256 }).wellFormed = false := by decide
theorem test_stage_put_mode_refused :
    (Instr.stagePut 1#8 { entryArg with mode := 4 }).wellFormed = false := by decide
theorem test_stage_put_spare_refused :
    (Instr.stagePut 1#8 { entryArg with spare := 16 }).wellFormed = false := by decide
theorem test_stage_put_length_refused :
    (Instr.stagePut 1#8 { entryArg with pattern := List.replicate 240 0#8 }).wellFormed = false := by
  decide +kernel
theorem test_stage_put_accepted : (Instr.stagePut 1#8 entryArg).wellFormed = true := by decide
theorem test_stage_header_window_refused :
    (Instr.stageHeader 1#8 { headerArg with window := 65536 }).wellFormed = false := by decide
theorem test_stage_header_speed_refused :
    (Instr.stageHeader 1#8 { headerArg with speed := 256 }).wellFormed = false := by decide
theorem test_stage_header_repeats_refused :
    (Instr.stageHeader 1#8 { headerArg with repeats := 256 }).wellFormed = false := by decide
theorem test_stage_header_budget_refused :
    (Instr.stageHeader 1#8 { headerArg with budget := 256 }).wellFormed = false := by decide
theorem test_stage_header_policy_refused :
    (Instr.stageHeader 1#8 { headerArg with policy := 256 }).wellFormed = false := by decide
theorem test_submit_address_refused :
    (Instr.submit 1#8 { submitArg with address := 256 }).wellFormed = false := by decide
theorem test_submit_service_refused :
    (Instr.submit 1#8 { submitArg with service := 256 }).wellFormed = false := by decide
theorem test_submit_deadline_refused :
    (Instr.submit 1#8 { submitArg with deadline := 65536 }).wellFormed = false := by decide
theorem test_submit_length_refused :
    (Instr.submit 1#8 { submitArg with data := List.replicate 246 0#8 }).wellFormed = false := by
  decide +kernel
theorem test_set_baud_refused : (Instr.setBaud 1#8 4294967296).wellFormed = false := by decide
theorem test_one_address_requests_refused :
    (Instr.stageRemove 1#8 256).wellFormed = false ∧
    (Instr.readRosterSingle 1#8 256 1).wellFormed = false ∧
    (Instr.readRosterRun 1#8 0 256).wellFormed = false ∧
    (Instr.disableStation 1#8 256).wellFormed = false ∧
    (Instr.enableStation 1#8 256).wellFormed = false ∧
    (Instr.readmit 1#8 256).wellFormed = false ∧
    (Instr.readStation 1#8 256).wellFormed = false ∧
    (Instr.readInputsRun 1#8 256).wellFormed = false ∧
    (Instr.readOutputsRun 1#8 256).wellFormed = false ∧
    (Instr.readSurvey 1#8 256 0).wellFormed = false ∧
    (Instr.readSurvey 1#8 1 256).wellFormed = false := by decide
theorem test_one_number_requests_refused :
    (Instr.startSweep 1#8 256 1).wellFormed = false ∧
    (Instr.startSweep 1#8 0 65536).wellFormed = false ∧
    (Instr.setLease 1#8 65536).wellFormed = false ∧
    (Instr.queryRequest 1#8 256).wellFormed = false ∧
    (Instr.fetchResult 1#8 256).wellFormed = false ∧
    (Instr.discardResult 1#8 256).wellFormed = false ∧
    (Instr.cancel 1#8 256).wellFormed = false ∧
    (Instr.ackFault 1#8 256 1).wellFormed = false ∧
    (Instr.ackFault 1#8 1 256).wellFormed = false ∧
    (Instr.grantNotices 1#8 256).wellFormed = false ∧
    (Instr.deadlineExpiry 256).wellFormed = false := by decide
theorem test_notice_class_forms_refused :
    (Instr.setNoticeClass 1#8 (some 1) none).wellFormed = false ∧
    (Instr.setNoticeClass 1#8 (some 256) (some 1)).wellFormed = false ∧
    (Instr.setNoticeClass 1#8 (some 1) (some 256)).wellFormed = false := by decide
theorem test_list_requests_refused :
    (Instr.readInputsList 1#8 [256]).wellFormed = false ∧
    (Instr.readInputsList 1#8 (List.replicate 250 1)).wellFormed = false ∧
    (Instr.readOutputsList 1#8 [256]).wellFormed = false ∧
    (Instr.readOutputsList 1#8 (List.replicate 250 1)).wellFormed = false ∧
    (Instr.writeOutputs 1#8 [{ address := 256, bytes := [] }]).wellFormed = false ∧
    (Instr.writeOutputs 1#8 [{ address := 1, bytes := List.replicate 248 0#8 }]).wellFormed = false := by
  decide +kernel
theorem test_host_frames_refused :
    (Instr.hostFrameReceived []).wellFormed = false ∧
    (Instr.hostFrameReceived [0xC4#8, 2#8, 0#8, 1#8, 1#8, 0#8, 0#8]).wellFormed = false ∧
    (Instr.hostFrameReceived [0xC5#8, 1#8, 0#8, 1#8, 0#8, 0#8]).wellFormed = false ∧
    (Instr.hostFrameReceived [0xC5#8, 253#8, 0#8, 1#8, 0#8, 0#8]).wellFormed = false ∧
    (Instr.hostFrameReceived [0xC5#8, 2#8, 0#8, 1#8, 1#8, 0#8]).wellFormed = false := by decide
theorem test_long_reply_frames_refused :
    (Instr.replyFrameEnd (List.replicate 79 (FieldChar.of 0#8))).wellFormed = false ∧
    (Instr.unawaitedFrameEnd (List.replicate 79 (FieldChar.of 0#8))).wellFormed = false := by
  decide

/-! ## CRCs, words and layouts -/

/-- The nine bytes of "123456789". -/
def digits : List Byte :=
  [0x31#8, 0x32#8, 0x33#8, 0x34#8, 0x35#8, 0x36#8, 0x37#8, 0x38#8, 0x39#8]

/-- R191. -/
theorem test_host_crc : hostCrc digits = 0x29B1#16 := by decide +kernel
/-- R194. -/
theorem test_field_crc : fieldCrc digits = 0xFEE8#16 := by decide +kernel
/-- No row of the table has bits. -/
theorem test_table_words : decodeTableWord 16 0x2001 = none := by decide
/-- Section 12.2, SET_BAUD: four bytes, least significant first. -/
theorem test_set_baud_layout :
    parseRequest 5#8 0x03#8 [0x00#8, 0xC2#8, 0x01#8, 0x00#8] = .request (.setBaud 5#8 115200) := by
  decide
/-- Section 12.2, START_SWEEP. -/
theorem test_start_sweep_layout :
    parseRequest 5#8 0x22#8 [0x02#8, 0x64#8, 0x00#8] = .request (.startSweep 5#8 2 100) := by decide
theorem test_entry_layout :
    parseRequest 1#8 0x10#8 (Instr.stagePut 1#8 entryArg).requestPayload =
      .request (.stagePut 1#8 entryArg) := by decide

/-! ## Small states -/

def entryOne : RosterEntry :=
  { address := 1, classCode := 0, inWidth := 2, outWidth := 1, divisor := 1, missLimit := 2,
    fallback := .pattern [7#8], startDisabled := false, label := some [0x41#8] }

def entryLast : RosterEntry :=
  { address := 119, classCode := 65535, inWidth := 0, outWidth := 0, divisor := 8, missLimit := 15,
    fallback := .hold, startDisabled := false, label := none }

def roster : Roster := { header := .default, entries := [entryOne, entryLast] }

/-- Two stations committed, station 1 in a given state, the line in a given state, after reset. -/
def placed (line : LineState) (one : StationState) : State :=
  { State.reset with
    roster := { staged := roster, committed := roster, pendingCopy := none, generation := 1#32 }
    stations := [{ entryOne.freshStation with state := one }, entryLast.freshStation]
    image := { State.reset.image with images := [entryOne.newImage, entryLast.newImage] }
    sweep := { State.reset.sweep with line := line, plan := .free } }

/-- A POLL to station 1, first attempt of two. -/
def poll : Exchange :=
  { chooser := .cyclic, kind := .poll, address := 1, payload := [0#8], toggle := false, limit := 2,
    made := 0, lastFailure := none }

/-- A sweep with an exchange in flight, the engine in a given state. -/
def serving (x : Exchange) (e : EngineState) (frame : Option TakenFrame) (one : StationState) :
    State :=
  { placed .sweeping one with
    sweep := { (placed .sweeping one).sweep with phase := .cyclic, number := 1#32, cursor := 1 }
    engine := { State.reset.engine with
      state := e, exchange := some x, attempt := some ⟨false, 300, 0, 264⟩
      frame := frame, lde := e == .sending, due := 5000 } }

/-- A delimiter received, and what follows it still to come. -/
def begun : TakenFrame := { chars := [FieldChar.of 0x96#8], gapDue := 480 }

/-- A request record. -/
def record (id : Nat) (st : TxnState) : Txn :=
  { id := id, address := 1, service := 3, data := [9#8], deadline := 10, due := 240000, state := st,
    attempts := 0#8 }

def finished : TxnState := .done { code := .ok, detail := some 4, data := none, sweep := 1#32 }

def withRecords (l : List Txn) (s : State) : State :=
  { s with requests := { s.requests with records := l } }

/-- Both stations with an AWAITING record, and station 1 with a QUEUED and a DONE one. -/
def requested (s : State) : State :=
  withRecords [record 1 .queued, record 2 .awaiting, { record 3 .awaiting with address := 119 },
    record 255 finished] s

def faultEntry (a : Nat) (c : FaultCode) : FaultEntry :=
  { address := a, code := c, firstSweep := 1#32, lastSweep := 1#32, repeats := 1#8, active := true }

/-- A fault list of these entries, with FLT as they ask. -/
def faultList (l : List FaultEntry) : FaultList :=
  { entries := l, overflow := 0#16, capture := none, flt := l.any (·.active) }

def raised (a : Nat) (c : FaultCode) : FaultRaise :=
  { address := a, code := c, active := true, sweep := 2#32, state := none, failure := none }

def noticeEntry (id cls : Nat) : NoticeEntry :=
  { notice := .requestDone id .ok 1 none, cls := cls, merge := 1#8 }

/-- A notice queue of these entries, with ATN as they ask. -/
def noticeQueue (l : List NoticeEntry) : NoticeQueue :=
  { entries := l, classes := .default, credit := 0, dropped := 0#16, atn := !l.isEmpty }

/-- A request held whose reply has been formed. -/
def heldReply (overflow : Bool) (after : After) : Held :=
  { overflow := overflow, tag := 3#8, kind := 1#8, reply := { status := .ok, fields := [], after } }

def withHost (f : HostPort → HostPort) (s : State) : State := { s with host := f s.host }
def withSweep (f : SweepController → SweepController) (s : State) : State :=
  { s with sweep := f s.sweep }
def withEngine (f : LinkEngine → LinkEngine) (s : State) : State := { s with engine := f s.engine }
def withLease (l : Lease) (s : State) : State := { s with image := { s.image with lease := l } }
def withFaults (l : FaultList) (s : State) : State := { s with faults := l }
def withNotices (q : NoticeQueue) (s : State) : State := { s with notices := q }
def withRoster (f : RosterManager → RosterManager) (s : State) : State :=
  { s with roster := f s.roster }
/-- A copy of the roster waits to be applied. -/
def copying (s : State) : State := withRoster (fun m => { m with pendingCopy := some roster }) s
def withSurvey (u : SurveyUnit) (s : State) : State := { s with survey := u }

/-- A Host Port as reset leaves it takes every request with a tag. -/
theorem accepting (s : State) (tag : Byte) (h : s.host = HostPort.reset) (ht : tag ≠ 0#8) :
    s.Accepting tag := by
  unfold State.Accepting HostPort.places
  rw [h]
  exact ⟨rfl, by decide, ht⟩

/-- The state after a command. -/
def after (c : Instr) (s : State) : State :=
  match exec c s with
  | .next t => t
  | .fault _ => s
  | .refused _ => s

/-! ## Single steps -/

/-- R116's example: with next id 254 and ids 255, 1 and 5 held, the ids given are 254 and then 2. -/
theorem test_submit_ids :
    let s := withRecords [record 255 .queued, record 1 .queued, record 5 .queued] (placed .ready .online)
    let s := { s with requests := { s.requests with nextId := 254 } }
    let t := after (.submit 1#8 submitArg) s
    let u := after (.submit 2#8 submitArg) t
    t.requests.records.map (·.id) = [255, 1, 5, 254] ∧ t.requests.nextId = 255 ∧
      u.requests.records.map (·.id) = [255, 1, 5, 254, 2] ∧ u.requests.nextId = 3 := by
  decide +kernel

/-- A sweep's first exchange: address 1 alone is due in sweep 1, and is sent its POLL at once; the frame's
7 characters of 11 bits take 77 µs at 1 Mbit/s. -/
theorem test_start_sweep_sends_poll :
    let t := after (.startSweep 1#8 1 0) (placed .ready .online)
    t.sweep.line = .sweeping ∧ t.sweep.number = 1#32 ∧ t.engine.state = .sending ∧
      (t.engine.exchange.map (·.address)) = some 1 ∧ t.engine.due = 7 * 264 ∧
      t.engine.lde = true := by
  decide +kernel

/-- LINE_STOP in READY sends SAFE, and its end brings OFF. -/
theorem test_line_stop_sends_safe :
    let t := after (.lineStop 1#8) (placed .ready .online)
    t.engine.state = .sending ∧ t.engine.exchange = some safeExchange ∧
      (after .safeComplete t).sweep.line = .off := by
  decide +kernel

/-- IDENTIFY after reset: the reply's status and its part code, revision and cause. -/
theorem test_identify_reply :
    (match (after (.identify 9#8) State.reset).host.tx with
      | .reply f => (f.tag, f.kind, f.payload.take 5)
      | .notice _ => (0#8, 0#8, [])
      | .idle => (0#8, 0#8, [])) = (9#8, 0x81#8, [0x00#8, 0x40#8, 0x28#8, 0x02#8, 0x00#8]) := by
  decide +kernel

/-- A COMMIT of two stations makes two PENDING records and generation 1. -/
theorem test_commit_applies :
    let s := withRoster (fun m => { m with staged := roster }) State.reset
    let t := after (.commit 1#8) s
    t.roster.generation = 1#32 ∧ t.stations.map (fun u => (u.address, u.state)) =
      [(1, .pending), (119, .pending)] ∧ (t.image.images.map (·.staged)) = [[7#8], []] := by
  decide +kernel

/-- A policy loss in HALT sends SAFE and ends in HALTED(POLICY). -/
theorem test_policy_halt :
    let halt := { roster with header := { roster.header with policy := .halt } }
    let s := serving { poll with limit := 1 } .window none .online
    let s := { s with
      roster := { s.roster with committed := halt }
      stations := s.stations.map fun t => { t with miss := 1 } }
    let t := after .replyWindowExpiry s
    let u := after .safeComplete (after .guardExpiry t)
    t.sweep.closing = some { target := .haltedPolicy, byHalt := true } ∧
      u.sweep.line = .halted .policy := by
  decide +kernel

/-- A queued frame is taken by a step, and an expired lease by an idle step. -/
theorem test_steps :
    (∃ t, step { State.reset with pending := [.lineStart 1#8] } = .next t ∧
      t.sweep.line = .listening ∧ t.pending = []) ∧
    (∃ t, step (withLease (.active 10 0) State.reset) = .next t ∧ t.image.lease = .expired 10) :=
  ⟨⟨_, rfl, by decide +kernel⟩, ⟨_, rfl, by decide +kernel⟩⟩

/-- R74: even parity and a high stop bit; one wrong bit and the character is ill formed. -/
theorem test_characters :
    (∀ b, (FieldChar.of b).ok = true) ∧
    (∀ b p s, (⟨b, p, s⟩ : FieldChar).ok = true → (⟨b, !p, s⟩ : FieldChar).ok = false) ∧
    ∀ b p, (⟨b, p, false⟩ : FieldChar).ok = false := by decide +kernel

/-- R93: the echoes of a frame, one by one, end its transmission as TRANSMISSION_COMPLETE does; an echo that
differs halts the line. -/
theorem test_echo :
    let s := serving poll .sending none .online
    let echoed := poll.bytes.foldl (fun s b => after (.fieldCharacterReceived (.of b)) s) s
    echoed = { after .transmissionComplete s with
      engine := { (after .transmissionComplete s).engine with
        attempt := some { toggle := false, window := 300, echoed := 6, charTime := 264 } } } ∧
    (after (.fieldCharacterReceived (.of 0x97#8)) s).sweep.line = .halted .contention := by
  decide +kernel

/-- Log 21: a sent character whose echo stays away to the end of the next one is a collision. -/
theorem test_no_echo :
    let s := serving poll .sending none .online
    { s with now := 3679 }.dueEvent = none ∧
      { s with now := 3680 }.dueEvent = some .echoCollision := by
  decide +kernel

/-- R62: the guard that follows a sweep's last exchange sends the first exchange of the next sweep, a probe
included. -/
theorem test_successor_probes :
    let x : Exchange := identExchange .probe 1 1
    let s := serving x .window none .lost
    let t := after .replyWindowExpiry (withSweep (fun c => { c with phase := .probe, probe := 1 }) s)
    t.sweep.number = 2#32 ∧ t.sweep.phase = .probe ∧
      (after .guardExpiry t).engine.state = .sending := by decide +kernel

/-- Log 14: a READ_OUTPUTS list of six stations of the widest output keeps five. -/
theorem test_read_outputs_list_cut :
    let e (a : Nat) : RosterEntry :=
      { entryLast with address := a, outWidth := 16, fallback := .zero }
    let s : State := { placed .ready .online with
      image := { State.reset.image with images := [1, 2, 3, 4, 5, 6].map fun a =>
        { (e a).newImage with latchedIn := some 1#32 } } }
    ((s.host.held.length, ((after (.readOutputsList 1#8 [1, 2, 3, 4, 5, 6]) s).host.held.map
      fun h => (h.reply.fields.length + 1, h.reply.fields.head?)))) = (0, [(210, some 5#8)]) := by
  decide +kernel

/-! ## A state for the hypotheses of each statement -/

/-- A sweep that found no exchange to make. -/
def resting : State :=
  withSweep (fun c => { c with phase := .ending, number := 1#32 }) (placed .sweeping .disabled)

/-- A state at 10 ms. -/
def tenMs (s : State) : State := { s with now := 240000 }

/-- Each timer at the instant it runs out, at 1 Mbit/s and 115200 bit/s, with no earlier one running. -/
theorem test_witness_IdleStepFiresADueTimerOrPassesACycle :
    let calm (s : State) : Bool := s.pending.isEmpty && s.image.lease == .off
    let alone (s : State) : Bool := calm s && s.requests.records.isEmpty
    let leased := withLease (.active 10 240000) (tenMs State.reset)
    let dated := withRecords [record 7 finished, { record 8 .queued with due := 240001 },
      record 9 .awaiting] (tenMs State.reset)
    let engine (e : EngineState) (due : Nat) : State :=
      withEngine (fun l => { l with due := due }) (tenMs (serving poll e none .online))
    let gapped := withEngine (fun e => { e with frame := some { begun with gapDue := 239736 } })
      (tenMs State.reset)
    let listening := withSweep (fun c => { c with quietDue := 240000 })
      (tenMs (placed .listening .online))
    let waits := withSweep (fun c =>
      { c with phase := .wait, plan := .paced 100, pacing := some { base := 0, count := 1 } })
      (tenMs (placed .sweeping .online))
    let hosted := withHost (fun h => { h with rx := .length, rxFrame := some [0xC5#8],
                                              rxGapDue := 237916 }) (tenMs State.reset)
    leased.pending = [] ∧ leased.image.lease = .active 10 240000 ∧ 240000 ≤ leased.now ∧
    calm dated = true ∧ (record 7 finished).live = false ∧ dated.now < 240001 ∧
    (record 9 .awaiting).state = .awaiting ∧ (record 9 .awaiting).due ≤ dated.now ∧
    alone (engine .sending 241320) = true ∧ (engine .sending 241320).engine.state = .sending ∧
    241320 + 264 * (0 + 2) ≤ 240000 + 264 * (poll.payload.length + 6) ∧
    alone (engine .window 239736) = true ∧ 239736 + 264 ≤ (engine .window 239736).now ∧
    alone (engine .guard 240000) = true ∧ (engine .guard 240000).engine.due ≤ 240000 ∧
    alone gapped = true ∧ gapped.engine.state = .idle ∧ 239736 + 264 ≤ gapped.now ∧
    alone listening = true ∧ listening.engine = State.reset.engine ∧
    listening.sweep.line = .listening ∧ listening.sweep.quietDue ≤ listening.now ∧
    alone waits = true ∧ waits.engine = State.reset.engine ∧ waits.sweep.line = .sweeping ∧
    waits.sweep.phase = .wait ∧ 0 + 1 * (100 * 2400) ≤ waits.now ∧
    alone hosted = true ∧ hosted.engine = State.reset.engine ∧ hosted.sweep.line = .off ∧
    hosted.host.rxFrame.isSome = true ∧
    hosted.host.rxGapDue + (240000000 + hosted.host.baud.rate - 1) / hosted.host.baud.rate ≤
      hosted.now ∧
    alone State.reset = true ∧ State.reset.engine.frame = none ∧ State.reset.host.rxFrame = none ∧
    alone resting = true ∧ resting.engine = State.reset.engine ∧ resting.sweep.line = .sweeping ∧
    resting.sweep.phase = .ending ∧ resting.sweep.closing = none := by decide +kernel

theorem roster_legal : roster.Legal := by
  refine ⟨by unfold Header.Legal; decide, by unfold Ascending; decide, by decide, fun e he => ?_⟩
  simp only [roster, List.mem_cons, List.not_mem_nil, or_false] at he
  rcases he with rfl | rfl
  all_goals refine ⟨?_, ?_, ?_, ?_, ?_, ?_, ?_, ?_, ?_, ?_⟩
  all_goals first | decide | rfl | trivial

theorem policy_legal (p : RejoinPolicy) :
    { roster with header := { roster.header with policy := p } }.Legal := roster_legal

theorem roster_fits : roster.Fits := by unfold Roster.Fits; decide

theorem placed_rosters (l : LineState) (st : StationState) : (placed l st).RostersLegal :=
  ⟨roster_legal, roster_legal, roster_fits, fun _ h => nomatch h⟩

theorem requested_live (s : State) (h1 : (s.entry? 1).isSome = true)
    (h119 : (s.entry? 119).isSome = true) : (requested s).LiveRecordsRostered := by
  intro t ht _
  simp only [requested, withRecords, List.mem_cons, List.not_mem_nil, or_false] at ht
  rcases ht with rfl | rfl | rfl | rfl
  all_goals first
    | exact h1
    | exact h119

theorem requested_unique (s : State) : ((requested s).requests.records.map (·.id)).Nodup :=
  show [1, 2, 3, 255].Nodup by decide

theorem requested_awaits (s : State) : record 2 .awaiting ∈ (requested s).requests.records :=
  .tail _ (.head _)

theorem placed_records (l : LineState) (st : StationState) : (placed l st).RecordsMatchRoster :=
  ⟨rfl, rfl⟩

theorem test_witness_StationRecordsStayLawful :
    (placed .ready .online).StationsLawful ∧ ∃ t, step (placed .ready .online) = .next t := by
  refine ⟨⟨placed_rosters _ _, placed_records _ _, ?_⟩, _, rfl⟩
  unfold State.MissLaw Station.MissLaw
  decide

theorem test_witness_ImagesStayLawful :
    (placed .ready .online).ImagesLawful ∧ ∃ t, step (placed .ready .online) = .next t := by
  refine ⟨⟨placed_rosters _ _, placed_records _ _, ?_⟩, _, rfl⟩
  unfold Image.Law
  decide

/-- An awaiting record, and a REQ in flight to the other station. -/
def requesting : State :=
  let x : Exchange :=
    { poll with chooser := .acyclic, kind := .req, address := 119, payload := [2#8, 3#8, 9#8] }
  withRecords [record 1 .awaiting, record 255 finished] (serving x .window none .online)

theorem test_witness_TransactionBoundsStay :
    requesting.RequestsLawful ∧ ∃ t, step requesting = .next t := by
  refine ⟨?_, _, rfl⟩
  unfold State.RequestsLawful RequestQueue.Bounded State.ReqInFlightLaw State.LiveRecordsRostered
  decide +kernel

def marked : State :=
  let s := placed .sweeping .online
  { s with requests := { s.requests with marks := [1] } }

theorem test_witness_MarksStayOnPolledStations :
    marked.MarksLawful ∧ ∃ t, step marked = .next t :=
  ⟨⟨placed_rosters .sweeping .online, placed_records .sweeping .online, by decide +kernel,
    by unfold Ascending; decide⟩, _, rfl⟩

def twoFaults : State :=
  withFaults (faultList [faultEntry 0 .overrun, faultEntry 119 .mismatch]) State.reset

theorem test_witness_FaultListStaysLawful : twoFaults.faults.Law ∧ ∃ t, step twoFaults = .next t := by
  refine ⟨?_, _, rfl⟩
  unfold FaultList.Law
  decide +kernel

def twoNotices : State := withNotices (noticeQueue [noticeEntry 1 1, noticeEntry 255 3]) State.reset

theorem test_witness_NoticeQueueStaysLawful :
    twoNotices.notices.Law ∧ ∃ t, step twoNotices = .next t := by
  refine ⟨?_, _, rfl⟩
  unfold NoticeQueue.Law ClassTable.Legal
  decide +kernel

theorem test_witness_LineStaysLawfullyDriven :
    (serving poll .sending none .online).LineDrivenLawfully ∧
      ∃ t, step (serving poll .sending none .online) = .next t := by
  refine ⟨⟨?_, ?_, ?_, ?_, ?_⟩, _, rfl⟩
  · unfold LinkEngine.Law; decide +kernel
  · intro x hx; cases hx; exact ⟨rfl, rfl⟩
  all_goals decide +kernel

/-- A survey at an address, its IDENT in flight and the engine in a given state. -/
def surveyingAt (a : Nat) (e : EngineState) (frame : Option TakenFrame) : State :=
  let s := serving (identExchange .survey a 1) e frame .online
  { s with
    sweep := { s.sweep with line := .surveying, phase := .idle }
    survey := { s.survey with
      status := .running, done := a - 1, current := some a, startGeneration := some 1#32 } }

/-- A survey at its last address. -/
def surveying : State :=
  let s := surveyingAt 119 .window none
  withSurvey { s.survey with
    found := [{ address := 118, identity := ⟨5, 2, 1, 0⟩ }], foundTotal := 1 } s

theorem test_witness_SurveyStaysLawful : surveying.SurveyLawful ∧ ∃ t, step surveying = .next t := by
  refine ⟨⟨⟨?_, ?_, ?_, ?_, ?_⟩, ?_, ?_, ?_⟩, _, rfl⟩
  · unfold LinkEngine.Law; decide +kernel
  · intro x hx; cases hx; rfl
  · decide +kernel
  · decide +kernel
  · decide +kernel
  · unfold SurveyUnit.Law Ascending; decide +kernel
  · decide +kernel
  · decide +kernel

theorem test_witness_HostPortStaysLawful :
    let s := withHost (fun h => { h with rx := .length, rxFrame := some [0xC5#8] }) State.reset
    s.host.Law ∧ ∃ t, step s = .next t := by
  refine ⟨?_, _, rfl⟩
  unfold HostPort.Law RxState.Framing
  decide +kernel

/-- A reply on its way. -/
def replying : State :=
  let h := heldReply false .nothing
  withHost (fun p => { p with held := [h], tx := .reply h.frame }) State.reset

theorem test_witness_TransmitterNeverIdlesWithAFrameReady :
    replying.TransmitterBusy ∧ ∃ t, step replying = .next t := ⟨rfl, _, rfl⟩

theorem test_witness_LatchedOutputsStandBetweenLatches :
    let s := placed .ready .online
    ∃ t, step s = .next t ∧ t.sweep.number = s.sweep.number ∧
      t.roster.generation = s.roster.generation ∧ entryOne.newImage ∈ t.image.images :=
  ⟨_, rfl, by decide +kernel⟩

theorem test_witness_RequestLayoutsReadBack :
    let i := Instr.startSweep 255#8 2 10000
    i.wellFormed = true ∧ i.requestTag = some 255#8 ∧ i.requestKind = some 0x22#8 := by decide

theorem test_witness_RequestFrameRunsItsRequest :
    let i := Instr.startSweep 1#8 0 65535
    i.wellFormed = true ∧ i.requestTag = some 1#8 ∧ i.requestKind = some 0x22#8 ∧ 1#8 ≠ 0#8 ∧
      State.reset.host.rx = .hunt ∧ State.reset.host.rxFrame = none := by decide

/-- A Host Port with n requests held. -/
def holds (n : Nat) : State :=
  withHost (fun p => { p with held := List.replicate n (heldReply false .nothing) }) State.reset

/-- The frames of the second part: a good one that finds no place, one with tag 0, KIND 17H, an IDENTIFY
with a byte too many, and READ_INPUTS in form 2. -/
theorem test_witness_RequestsTheHostPortDoesNotPassOn :
    (Instr.identify 0#8).requestTag = some 0#8 ∧ (Instr.identify 0#8).requestKind = some 1#8 ∧
    (withHost (fun p => { p with rx := .paused }) State.reset).host.rx = .paused ∧
    (withHost (fun p => { p with rx := .closed }) State.reset).host.rx = .closed ∧
    (holds 3).host.rx ≠ .paused ∧ (holds 3).host.rx ≠ .closed ∧ (holds 3).host.places < 4 ∧
    (holds 4).host.rx ≠ .paused ∧ (holds 4).host.rx ≠ .closed ∧ 4 ≤ (holds 4).host.places ∧
    (holds 3).host.rx = .hunt ∧ (holds 3).host.rxFrame = none ∧ (holds 4).host.rx = .hunt ∧
    (holds 4).host.rxFrame = none ∧ (1#8 : Byte) ≠ 0#8 ∧ [0#8].length ≤ 250 ∧
    (∀ i : Instr, ¬ (i.requestKind = some 0x17#8 ∨
      i.requestKind = some 0x01#8 ∧ i.requestPayload = [0#8])) ∧
    (∃ form rest, [2#8, 0#8] = form :: rest ∧ 2 ≤ form.toNat) := by
  refine ⟨rfl, rfl, rfl, rfl, by decide, by decide, by decide, by decide, by decide, by decide, rfl, rfl,
    rfl, rfl, by decide, by decide, fun i h => ?_, ⟨_, _, rfl, by decide⟩⟩
  cases i <;> rcases h with h | ⟨h, k⟩ <;>
    first | (simp [Instr.requestKind] at h; done) | (change [] = _ at k; cases k)

/-- A receiver with bytes taken. -/
def taken (rx : RxState) (l : List Byte) : State :=
  withHost (fun p => { p with rx := rx, rxFrame := some l }) State.reset

theorem test_witness_ReceiverTakesBytes :
    State.reset.host.rx = .hunt ∧ State.reset.host.rxFrame = none ∧ (0xC4#8 : Byte) ≠ 0xC5#8 ∧
    (withHost (fun p => { p with rx := .paused }) State.reset).host.rx = .paused ∧
    (taken .length [0xC5#8]).host.rx = .length ∧
    (taken .length [0xC5#8]).host.rxFrame = some [0xC5#8] ∧
    (taken .length [0xC5#8, 252#8]).host.rxFrame = some [0xC5#8, 252#8] ∧
    read2 252#8 0#8 = 252 ∧ read2 253#8 0#8 = 253 ∧ read2 2#8 0#8 = 2 ∧ read2 1#8 0#8 = 1 ∧
    (taken .body [0xC5#8, 2#8, 0#8, 1#8]).host.rxFrame =
      some (0xC5#8 :: 2#8 :: 0#8 :: [1#8]) ∧
    (taken .check [0xC5#8, 2#8, 0#8, 1#8, 1#8]).host.rxFrame =
      some (0xC5#8 :: 2#8 :: 0#8 :: [1#8, 1#8]) ∧
    [1#8, 1#8].length = read2 2#8 0#8 ∧
    (taken .check [0xC5#8, 2#8, 0#8, 1#8, 1#8, 0#8]).host.rxFrame =
      some (0xC5#8 :: 2#8 :: 0#8 :: [1#8, 1#8] ++ [0#8]) ∧
    [0#8, 0#8] ≠ crcBytes (hostCrc (2#8 :: 0#8 :: [1#8, 1#8])) := by decide +kernel

theorem test_witness_TransmitterServesRepliesThenNotices :
    let offered := { twoNotices with notices := { twoNotices.notices with credit := 1 } }
    replying.host.tx ≠ .idle ∧ (holds 1).host.tx = .idle ∧
    (holds 1).host.held = heldReply false .nothing :: [] ∧ offered.host.tx = .idle ∧
    offered.host.held = [] ∧ 0 < offered.notices.credit ∧
    offered.notices.head? = some (noticeEntry 255 3) ∧ twoNotices.notices.credit = 0 ∧
    State.reset.notices.entries = [] ∧
    (heldReply true .nothing).reply.after = .nothing ∧
    (heldReply false (.setBaud .b3000000)).reply.after = .setBaud .b3000000 ∧
    (heldReply false .reset).reply.after = .reset ∧
    replying.host.tx = .reply (heldReply false .nothing).frame ∧
    replying.host.held = heldReply false .nothing :: [] :=
  ⟨by decide, rfl, rfl, rfl, rfl, by decide, by decide +kernel, rfl, rfl, rfl, rfl, rfl, rfl,
    rfl⟩

theorem test_witness_PartIdentifiedAndCountersReadAndCleared :
    State.reset.Accepting 255#8 ∧ State.reset.Accepting 1#8 :=
  ⟨accepting _ _ rfl (by decide), accepting _ _ rfl (by decide)⟩

theorem test_witness_RateAndResetFollowTheirReplies :
    State.reset.Accepting 1#8 ∧ 115201 ∉ [115200, 230400, 460800, 1000000, 2000000, 3000000] :=
  ⟨accepting _ _ rfl (by decide), by decide⟩

/-- Forty staged entries, none at address 1. -/
def staged40 : State :=
  withRoster (fun m => { m with
    staged := { roster with
      entries := (List.range 40).map fun k => { entryOne with address := k + 2 } } }) State.reset

theorem stores_entryOne : StoresEntry entryArg entryOne :=
  ⟨roster_legal.2.2.2 entryOne (by decide), rfl, rfl, rfl, rfl, rfl, rfl, by decide, rfl, rfl, rfl, rfl⟩

theorem test_witness_StagePutStoresTheEntryInAddressOrder :
    State.reset.Accepting 1#8 ∧ staged40.Accepting 1#8 ∧ StoresEntry entryArg entryOne ∧
    State.reset.roster.staged.entries.length < 40 ∧
    ((placed .off .online).roster.staged.entry? entryOne.address).isSome = true ∧
    Ascending (roster.entries.map (·.address)) ∧
    staged40.roster.staged.entry? entryOne.address = none ∧
    40 ≤ staged40.roster.staged.entries.length ∧
    ∀ e, ¬ StoresEntry { entryArg with spare := 1 } e :=
  ⟨accepting _ _ rfl (by decide), accepting _ _ rfl (by decide), stores_entryOne, by decide, rfl,
    roster_legal.2.1, by decide +kernel, by decide +kernel, fun _ h => absurd h.2.1 (by decide)⟩

theorem notStation0 : ¬ IsStation 0 := by unfold IsStation; decide
theorem notStation120 : ¬ IsStation 120 := by unfold IsStation; decide
theorem isStation1 : IsStation 1 := by unfold IsStation; decide
theorem isStation118 : IsStation 118 := by unfold IsStation; decide
theorem isStation119 : IsStation 119 := by unfold IsStation; decide

theorem test_witness_StagedEntriesRemovedClearedReverted :
    State.reset.Accepting 1#8 ∧ (placed .off .online).Accepting 1#8 ∧ ¬ IsStation 0 ∧
    ¬ IsStation 120 ∧ IsStation 1 ∧ IsStation 119 ∧
    (∀ e ∈ State.reset.roster.staged.entries, e.address ≠ 1) ∧
    (∃ e ∈ (placed .off .online).roster.staged.entries, e.address = 119) :=
  ⟨accepting _ _ rfl (by decide), accepting _ _ rfl (by decide), notStation0, notStation120, isStation1,
    isStation119, by decide, ⟨entryLast, by decide, rfl⟩⟩

theorem test_witness_StageHeaderSetsTheFieldsGiven :
    State.reset.Accepting 1#8 ∧
    SetsHeader { headerArg with window := 2000, repeats := 3, budget := 8, policy := 2 } .default
      { speed := .mbit1, window := 2000, repeats := 3, budget := 8, policy := .halt } ∧
    SetsHeader { headerArg with mask := 0#8, window := 9 } .default .default ∧
    (∀ h, ¬ SetsHeader { headerArg with mask := 32#8 } .default h) ∧
    (∀ h, ¬ SetsHeader { headerArg with window := 49 } .default h) ∧
    ∀ h, ¬ SetsHeader { headerArg with repeats := 4 } .default h := by
  refine ⟨accepting _ _ rfl (by decide), ?_, ?_, fun h k => ?_, fun h k => ?_, fun h k => ?_⟩
  · unfold SetsHeader; decide
  · unfold SetsHeader; decide
  · exact absurd k.1 (by decide)
  · exact absurd k.2.2.1 (by simp [headerArg])
  · exact absurd k.2.2.2.1 (by simp [headerArg])

theorem test_witness_ReadRosterReturnsTheNamedRoster :
    let s := withRoster (fun m => { m with pendingCopy := some roster }) (placed .sweeping .online)
    State.reset.Accepting 1#8 ∧ s.Accepting 1#8 ∧ ¬ IsStation 120 ∧ 2 < 3 ∧ IsStation 119 ∧
    State.reset.roster.pendingCopy = none ∧ s.roster.pendingCopy = some roster ∧
    IsStation 118 ∧ roster.entry? 118 = none ∧ roster.entry? 119 = some entryLast :=
  ⟨accepting _ _ rfl (by decide), accepting _ _ rfl (by decide), notStation120, by decide,
    isStation119, rfl, rfl, isStation118, rfl, rfl⟩

theorem test_witness_RunFormTakesAsManyWholeElementsAsFit :
    runForm 3 [(1, [1#8, 1#8]), (4, [2#8]), (9, [3#8])] = ([2#8, 1#8, 1#8, 2#8], 9) := by
  decide +kernel

/-- A staged roster of 25 entries of input width 16: 400 bytes. -/
def wide : State :=
  withRoster (fun m => { m with
    staged := { roster with
      entries := (List.range 25).map fun k =>
        { entryOne with address := k + 1, inWidth := 16, outWidth := 0 } } }) State.reset

theorem test_witness_CommitRefusedOrDeferred :
    wide.Accepting 1#8 ∧ 384 < (wide.roster.staged.entries.map (·.inWidth)).sum ∧
    (placed .sweeping .online).Accepting 1#8 ∧
    ((placed .sweeping .online).roster.staged.entries.map (·.inWidth)).sum ≤ 384 ∧
    ((placed .sweeping .online).roster.staged.entries.map (·.outWidth)).sum ≤ 384 ∧
    (placed .sweeping .online).sweep.line = .sweeping :=
  ⟨accepting _ _ rfl (by decide), by decide +kernel, accepting _ _ rfl (by decide), by decide,
    by decide, rfl⟩

/-- Staged against the committed roster: 1 is Kept, 118 New, 119 Removed; 1 has a record, and 119. -/
def restaged : State :=
  withRecords [record 1 .awaiting, { record 2 .queued with address := 119 }]
    (withRoster (fun m => { m with
      staged := { roster with entries := [entryOne, { entryLast with address := 118 }] } })
      (placed .ready .online))

/-- Staged against the committed roster: 1 is Changed. -/
def rekeyed : State :=
  withRoster (fun m => { m with
    staged := { roster with entries := [{ entryOne with divisor := 2 }] } }) (placed .ready .online)

theorem test_witness_CommitAppliesTheStagedRoster :
    restaged.Accepting 1#8 ∧ restaged.RecordsMatchRoster ∧ restaged.LiveRecordsRostered ∧
    restaged.roster.staged.Fits ∧ restaged.sweep.line ≠ .sweeping ∧
    addressClass restaged.roster.committed restaged.roster.staged 1 = .kept ∧
    addressClass restaged.roster.committed restaged.roster.staged 118 = .new ∧
    addressClass restaged.roster.committed restaged.roster.staged 119 = .removed ∧
    (restaged.requests.records.map (·.id)).Nodup ∧ restaged.roster.committed.Legal ∧
    restaged.faults.flt = restaged.faults.entries.any (·.active) ∧
    rekeyed.Accepting 1#8 ∧ rekeyed.RecordsMatchRoster ∧ rekeyed.LiveRecordsRostered ∧
    rekeyed.roster.staged.Fits ∧ rekeyed.sweep.line ≠ .sweeping ∧
    addressClass rekeyed.roster.committed rekeyed.roster.staged 1 = .changed ∧
    rekeyed.roster.staged.entry? 1 = some { entryOne with divisor := 2 } := by
  refine ⟨accepting _ _ rfl (by decide), ⟨rfl, rfl⟩, ?_, ?_, by decide, by decide, by decide, by decide,
    by decide, roster_legal, rfl, accepting _ _ rfl (by decide), ⟨rfl, rfl⟩, ?_, ?_, by decide, by decide, rfl⟩
  all_goals first
    | (unfold State.LiveRecordsRostered; decide +kernel)
    | (unfold Roster.Fits; decide)

theorem test_witness_LineStartListensAndQuietBringsReady :
    State.reset.Accepting 1#8 ∧ State.reset.sweep.line = .off ∧ State.reset.sweep.closing = none ∧
    (placed .listening .pending).Accepting 1#8 ∧ (placed .listening .pending).sweep.line ≠ .off ∧
    (placed .listening .pending).sweep.line = .listening ∧
    State.reset.sweep.line ≠ .listening :=
  ⟨accepting _ _ rfl (by decide), rfl, rfl, accepting _ _ rfl (by decide), by decide, rfl, by decide⟩

def waiting : State :=
  withSweep (fun c => { c with phase := .wait, plan := .paced 5, pacing := some ⟨0, 1⟩ })
    (placed .sweeping .online)

theorem test_witness_LineStopClosesTheLine :
    let between := withEngine (fun e => { e with state := .guard }) (serving poll .idle none .online)
    let closing := withSweep (fun c => { c with closing := some ⟨.haltedPolicy, true⟩ })
      (placed .sweeping .online)
    let surveyed := withEngine (fun e => { e with state := .guard }) surveying
    State.reset.Accepting 1#8 ∧ State.reset.sweep.line = .off ∧
    closing.Accepting 1#8 ∧ closing.sweep.line ≠ .off ∧
    closing.sweep.closing = some ⟨.haltedPolicy, true⟩ ∧
    (placed .listening .online).sweep.closing = none ∧
    (placed .listening .online).sweep.line = .listening ∧
    (placed (.halted .contention) .online).sweep.line = .halted .contention ∧
    (placed .ready .online).sweep.line = .ready ∧
    (placed (.halted .policy) .online).sweep.line = .halted .policy ∧
    (serving poll .sending none .online).Accepting 1#8 ∧
    (serving poll .sending none .online).sweep.closing = none ∧
    (serving poll .sending none .online).sweep.line = .sweeping ∧
    (serving poll .sending none .online).sweep.phase ≠ .wait ∧
    (serving poll .sending none .online).engine.state.attempting = true ∧
    surveying.Accepting 1#8 ∧ surveying.sweep.closing = none ∧ surveying.sweep.line = .surveying ∧
    surveying.engine.state.attempting = true ∧
    waiting.Accepting 1#8 ∧ waiting.sweep.closing = none ∧ waiting.sweep.line = .sweeping ∧
    waiting.sweep.phase = .wait ∧
    between.Accepting 1#8 ∧ between.sweep.closing = none ∧ between.sweep.line = .sweeping ∧
    between.sweep.phase ≠ .wait ∧ between.engine.state.attempting = false ∧
    surveyed.Accepting 1#8 ∧ surveyed.sweep.closing = none ∧ surveyed.sweep.line = .surveying ∧
    surveyed.engine.state.attempting = false ∧
    ∀ l, (requested (placed l .online)).Accepting 1#8 ∧
      (requested (placed l .online)).sweep.closing = none ∧
      (requested (placed l .online)).sweep.line = l ∧
      ((requested (placed l .online)).requests.records.map (·.id)).Nodup ∧
      record 2 .awaiting ∈ (requested (placed l .online)).requests.records := by
  refine ⟨?_, ?_, ?_, ?_, ?_, ?_, ?_, ?_, ?_, ?_, ?_, ?_, ?_, ?_, ?_, ?_, ?_, ?_, ?_, ?_, ?_, ?_, ?_,
    ?_, ?_, ?_, ?_, ?_, ?_, ?_, ?_, ?_, fun l => ⟨accepting _ _ rfl (by decide), rfl, rfl,
      requested_unique _, requested_awaits _⟩⟩ <;>
  first | decide | exact accepting _ _ rfl (by decide)

/-- Address 1 is due in every sweep, and no address stands before it. -/
theorem servesOne (s : State) (n : Word) (r : Station) (hc : s.roster.committed = roster)
    (hs : s.station? 1 = some r)
    (hr : r.state = .pending ∨ r.state = .online ∨ r.state = .faltering) :
    s.ServesNext n 0 entryOne r := by
  refine ⟨by rw [hc]; exact roster_legal.2.1, by rw [hc]; decide, by decide, ?_, hs, hr,
    fun f _ h k => ?_⟩
  · simp [entryOne, Nat.mod_one]
  · simp only [entryOne] at k; omega

theorem test_witness_StartSweepTakesThePlan :
    let free := placed .ready .pending
    let between := serving poll .guard none .online
    let fresh (st : StationState) : Station := { entryOne.freshStation with state := st }
    let copied (s : State) (r : Roster) : State := withRoster (fun m => { m with pendingCopy := some r }) s
    State.reset.Accepting 1#8 ∧ (∀ p, ¬ PlanNamed 0 0 p) ∧ (∀ p, ¬ PlanNamed 2 4 p) ∧
    (∀ p, ¬ PlanNamed 3 1 p) ∧ PlanNamed 0 65535 (.counted 65535) ∧ PlanNamed 1 0 .free ∧
    PlanNamed 2 5 (.paced 5) ∧ State.reset.sweep.line ≠ .ready ∧
    State.reset.sweep.line ≠ .sweeping ∧
    (withSweep (fun c => { c with line := .ready }) State.reset).roster.committed.entries = [] ∧
    free.Accepting 1#8 ∧ free.sweep.line = .ready ∧ free.sweep.closing = none ∧
    free.roster.committed.entries ≠ [] ∧
    free.ServesNext (free.sweep.number + 1) 0 entryOne (fresh .pending) ∧
    (serving poll .window none .online).Accepting 1#8 ∧
    (serving poll .window none .online).sweep.line = .sweeping ∧
    (serving poll .window none .online).sweep.closing = none ∧
    (serving poll .window none .online).sweep.phase ≠ .wait ∧
    (serving poll .window none .online).engine.state.attempting = true ∧
    waiting.Accepting 1#8 ∧ waiting.sweep.line = .sweeping ∧ waiting.sweep.closing = none ∧
    waiting.sweep.phase = .wait ∧ waiting.roster.pendingCopy = none ∧
    waiting.ServesNext (waiting.sweep.number + 1) 0 entryOne (fresh .online) ∧
    between.Accepting 1#8 ∧ between.sweep.line = .sweeping ∧ between.sweep.closing = none ∧
    between.sweep.phase ≠ .wait ∧ between.engine.state.attempting = false ∧
    between.roster.pendingCopy = none ∧
    between.ServesNext (between.sweep.number + 1) 0 entryOne (fresh .online) ∧
    (copied waiting roster).Accepting 1#8 ∧ (copied between .empty).Accepting 1#8 ∧
    (copied waiting roster).roster.pendingCopy = some roster ∧
    (copied between .empty).roster.pendingCopy = some .empty ∧ Roster.empty.entries = [] := by
  refine ⟨accepting _ _ rfl (by decide), ?_, ?_, ?_, ?_, ?_, ?_, by decide, by decide, rfl,
    accepting _ _ rfl (by decide), rfl, rfl, by decide, servesOne _ _ _ rfl rfl (.inl rfl),
    accepting _ _ rfl (by decide), rfl, rfl, by decide, rfl, accepting _ _ rfl (by decide), rfl, rfl, rfl,
    rfl, servesOne _ _ _ rfl rfl (.inr (.inl rfl)), accepting _ _ rfl (by decide), rfl, rfl, by decide,
    rfl, rfl, servesOne _ _ _ rfl rfl (.inr (.inl rfl)), accepting _ _ rfl (by decide),
    accepting _ _ rfl (by decide), rfl, rfl, rfl⟩
  all_goals simp [PlanNamed]

theorem test_witness_StopSweepAndTheEndOfAWait :
    let bare := { withRoster (fun m => { m with committed := .empty }) waiting with
      stations := [], image := State.reset.image }
    let copied := withRoster (fun m => { m with pendingCopy := some roster }) waiting
    let live := withRecords [record 1 .awaiting] waiting
    State.reset.Accepting 1#8 ∧ State.reset.sweep.line ≠ .sweeping ∧
    (serving poll .window none .online).Accepting 1#8 ∧
    (serving poll .window none .online).sweep.line = .sweeping ∧
    (serving poll .window none .online).sweep.closing = none ∧
    (serving poll .window none .online).sweep.phase ≠ .wait ∧
    waiting.Accepting 1#8 ∧ waiting.sweep.line = .sweeping ∧ waiting.sweep.closing = none ∧
    waiting.sweep.phase = .wait ∧ waiting.roster.pendingCopy = none ∧
    copied.Accepting 1#8 ∧ copied.roster.pendingCopy = some roster ∧ copied.sweep.phase = .wait ∧
    waiting.sweep.plan = .paced 5 ∧ waiting.sweep.pacing = some ⟨0, 1⟩ ∧
    live.RecordsMatchRoster ∧ live.LiveRecordsRostered ∧
    { live with now := 12000 }.CopyApplied { live with now := 12000 } ∧
    live.roster.committed.entries ≠ [] ∧
    { live with now := 12000 }.ServesNext (live.sweep.number + 1) 0 entryOne
      { entryOne.freshStation with state := .online } ∧
    bare.RecordsMatchRoster ∧ bare.LiveRecordsRostered ∧ bare.sweep.phase = .wait ∧
    bare.roster.committed.entries = [] ∧ copied.RecordsMatchRoster ∧ copied.LiveRecordsRostered ∧
    State.reset.sweep.phase ≠ .wait := by
  refine ⟨?_, ?_, ?_, ?_, ?_, ?_, ?_, ?_, ?_, ?_, ?_, ?_, ?_, ?_, ?_, ?_, ⟨rfl, rfl⟩, ?_, rfl, ?_,
    servesOne _ _ _ rfl rfl (.inr (.inl rfl)), ⟨rfl, rfl⟩, ?_, ?_, ?_, ⟨rfl, rfl⟩, ?_, ?_⟩ <;>
  first
    | decide
    | exact accepting _ _ rfl (by decide)
    | (unfold State.LiveRecordsRostered; decide +kernel)

theorem test_witness_SweepStatusAndSurveyRead :
    surveying.Accepting 1#8 ∧ ¬ IsStation 0 ∧ 1 < 2 ∧ IsStation 119 ∧ 1 ≤ 1 :=
  ⟨accepting _ _ rfl (by decide), notStation0, by decide, isStation119, by decide⟩

/-- What follows the delimiter of an intact frame with these fields. -/
def frameChars (address control : Nat) (payload : List Byte) : List FieldChar :=
  let body := bytes1 address ++ bytes1 control ++ bytes1 payload.length ++ payload
  (body ++ crcBytes (fieldCrc body)).map FieldChar.of

theorem of_ok (b : Byte) : (FieldChar.of b).ok = true := by
  revert b; decide +kernel

theorem of_map_value (l : List Byte) : (l.map FieldChar.of).map (·.value) = l := by
  rw [List.map_map]; exact List.map_id _

/-- Such a frame with its delimiter is intact. -/
theorem frame_intact (address control : Nat) (payload : List Byte) (ha : address < 256)
    (hc : control < 256) (hp : payload.length ≤ 72) :
    Intact (begun.chars ++ frameChars address control payload) address control payload := by
  refine ⟨fun c h => ?_, ha, hc, hp, 0x96#8, congrArg (0x96#8 :: ·) (of_map_value _)⟩
  rcases List.mem_append.1 h with h | h
  · obtain rfl := List.mem_singleton.1 h; exact of_ok _
  · obtain ⟨b, -, rfl⟩ := List.mem_map.1 h; exact of_ok _

/-- A reply in flight, begun by its delimiter, is one that comes. -/
theorem replyComes (s : State) (x : Exchange) (address control : Nat) (payload : List Byte)
    (hs : s.engine.state = .receiving) (hx : s.engine.exchange = some x)
    (hf : s.engine.frame = some begun) (ha : address < 256) (hc : control < 256)
    (hp : payload.length ≤ 72) :
    s.ReplyComes x (frameChars address control payload) address control payload :=
  ⟨hs, hx, begun, hf, frame_intact _ _ _ ha hc hp⟩

theorem begun_broken : Broken begun.chars := .inl (by decide)

/-- Four ways in which the attempt of an exchange fails: the window ends; the gap limit passes after the
delimiter; the frame ends short; and this intact frame comes. -/
def Failing (s : EngineState → Option TakenFrame → State) (x : Exchange) (address control : Nat)
    (payload : List Byte) : Prop :=
  let w := s .window none
  let r := s .receiving (some begun)
  w.AttemptFails x .replyWindowExpiry .timeout w.engine.due (max w.now w.engine.due) ∧
  r.AttemptFails x .fieldGapExpiry .corrupt 480 (max r.now 480) ∧
  r.AttemptFails x (.replyFrameEnd []) .corrupt r.now r.now ∧
  r.AttemptFails x (.replyFrameEnd (frameChars address control payload)) .corrupt r.now r.now

theorem failing (s : EngineState → Option TakenFrame → State) (x : Exchange) (address control : Nat)
    (payload : List Byte)
    (hs : ∀ e f, (s e f).engine.exchange = some x ∧ (s e f).engine.state = e ∧
      (s e f).engine.frame = f)
    (ha : address < 256) (hc : control < 256) (hp : payload.length ≤ 72)
    (hm : ¬ MasterControl control) (hn : ∀ w, ¬ x.AnsweredBy w address control payload) :
    Failing s x address control payload :=
  have hr := hs .receiving (some begun)
  ⟨⟨(hs .window none).1, .inl ⟨(hs .window none).2.1, rfl, rfl, rfl, rfl⟩⟩,
    ⟨hr.1, .inr (.inl ⟨hr.2.1, rfl, rfl, begun, hr.2.2, begun_broken, rfl, rfl⟩)⟩,
    ⟨hr.1, .inr (.inr ⟨hr.2.1, rfl, rfl, rfl, [], rfl,
      .inl ⟨begun.chars, ⟨begun, hr.2.2, rfl, fun _ _ h => nomatch h⟩, begun_broken⟩⟩)⟩,
    ⟨hr.1, .inr (.inr ⟨hr.2.1, rfl, rfl, rfl, _, rfl,
      .inr ⟨address, control, payload, replyComes _ _ _ _ _ hr.2.1 hr.1 hr.2.2 ha hc hp, hm, hn _⟩⟩)⟩⟩

theorem not_master_128 : ¬ MasterControl 128 := by unfold MasterControl; decide
theorem not_master_136 : ¬ MasterControl 136 := by unfold MasterControl; decide
theorem not_master_144 : ¬ MasterControl 144 := by unfold MasterControl; decide
theorem not_master_160 : ¬ MasterControl 160 := by unfold MasterControl; decide

theorem test_witness_SurveyWalksTheAddresses :
    let x (a : Nat) := identExchange .survey a 1
    let identity : List Byte := [5#8, 0#8, 16#8, 0#8, 255#8]
    let s (c : Option Closing) (a : Nat) (e : EngineState) (f : Option TakenFrame) : State :=
      withSweep (fun w => { w with closing := c }) (surveyingAt a e f)
    State.reset.Accepting 1#8 ∧ State.reset.sweep.line ≠ .ready ∧
    (placed .ready .online).Accepting 1#8 ∧ (placed .ready .online).sweep.line = .ready ∧
    (placed .ready .online).sweep.closing = none ∧
    ∀ c a, a = 1 ∨ a = 118 ∨ a = 119 →
      (x a).chooser = .survey ∧ (x a).kind = .ident ∧ (x a).limit = 1 ∧ IsStation (x a).address ∧
      (∀ e f, (s c a e f).sweep.line = .surveying ∧ (s c a e f).sweep.closing = c ∧
        (s c a e f).sweep.cut = false) ∧
      Failing (s c a) (x a) 0 144 identity ∧ (16#8 : Byte).toNat ≤ 16 ∧
      (s c a .receiving (some begun)).ReplyComes (x a) (frameChars a 144 identity) (x a).address 144
        identity ∧
      (s c a .receiving (some begun)).ReplyComes (x a) (frameChars a 152 identity) (x a).address 152
        identity := by
  refine ⟨accepting _ _ rfl (by decide), by decide, accepting _ _ rfl (by decide), rfl, rfl,
    fun c a ha => ⟨rfl, rfl, rfl, ?_, fun e f => ⟨rfl, rfl, rfl⟩,
      failing _ _ _ _ _ (fun e f => ⟨rfl, rfl, rfl⟩) (by decide) (by decide) (by decide)
        not_master_144 (fun w h => ?_), by decide,
      replyComes _ _ _ _ _ rfl rfl rfl ?_ (by decide) (by decide),
      replyComes _ _ _ _ _ rfl rfl rfl ?_ (by decide) (by decide)⟩⟩ <;>
  rcases ha with rfl | rfl | rfl
  all_goals first
    | exact isStation1
    | exact isStation118
    | exact isStation119
    | exact absurd h.1 (by decide)
    | decide

/-- A station in each state, with the most a DISABLE_STATION can end. -/
def disabling (st : StationState) : State :=
  withFaults (faultList [faultEntry 1 .stationAlarm, faultEntry 119 .noAnswer])
    (requested (placed .sweeping st))

theorem test_witness_DisableStationSetsTheRecordAside :
    (placed .sweeping .faltering).Accepting 1#8 ∧ ¬ IsStation 120 ∧ IsStation 118 ∧
    (placed .sweeping .faltering).station? 118 = none ∧ IsStation 1 ∧
    (placed .sweeping .disabled).station? 1 =
      some { entryOne.freshStation with state := .disabled } ∧
    (placed .sweeping .faltering).station? 1 =
      some { entryOne.freshStation with state := .faltering } ∧
    (placed .sweeping .parked).station? 1 = some { entryOne.freshStation with state := .parked } ∧
    ∀ st, (disabling st).Accepting 1#8 ∧
      (disabling st).station? 1 = some { entryOne.freshStation with state := st } ∧
      (disabling st).faults.Law ∧ ((disabling st).requests.records.map (·.id)).Nodup ∧
      record 2 .awaiting ∈ (disabling st).requests.records := by
  refine ⟨accepting _ _ rfl (by decide), notStation120, isStation118, rfl, isStation1, rfl, rfl, rfl,
    fun _ => ⟨accepting _ _ rfl (by decide), rfl, ?_, requested_unique _, requested_awaits _⟩⟩
  show (faultList [faultEntry 1 .stationAlarm, faultEntry 119 .noAnswer]).Law
  unfold FaultList.Law
  decide +kernel

theorem test_witness_EnableAndReadmitReleaseAStation :
    (placed .sweeping .parked).Accepting 1#8 ∧ ¬ IsStation 0 ∧ IsStation 118 ∧
    (placed .sweeping .parked).station? 118 = none ∧ IsStation 1 ∧
    ∀ st : StationState, (placed .sweeping st).station? 1 =
      some { entryOne.freshStation with state := st } :=
  ⟨accepting _ _ rfl (by decide), notStation0, isStation118, rfl, isStation1, fun _ => rfl⟩

theorem test_witness_ReadStationReturnsTheRecord :
    (placed .sweeping .online).Accepting 1#8 ∧ ¬ IsStation 120 ∧ IsStation 118 ∧
    (placed .sweeping .online).station? 118 = none ∧ IsStation 119 ∧
    (placed .sweeping .online).station? 119 = some entryLast.freshStation ∧
    (placed .sweeping .online).entry? 119 = some entryLast :=
  ⟨accepting _ _ rfl (by decide), notStation120, isStation118, rfl, isStation119, rfl, rfl⟩

theorem test_witness_ImagesRead :
    let s := placed .ready .online
    s.Accepting 1#8 ∧ ¬ (1 ≤ ([] : List Nat).length) ∧ ¬ [1, 1].Nodup ∧ ¬ IsStation 0 ∧
    (1 ≤ [1, 119].length ∧ [1, 119].length ≤ 6 ∧ (∀ b ∈ [1, 119], IsStation b) ∧ [1, 119].Nodup) ∧
    (∃ b ∈ [1, 118], s.image? b = none) ∧
    (1 ≤ [1, 118].length ∧ [1, 118].length ≤ 6 ∧ (∀ b ∈ [1, 118], IsStation b) ∧ [1, 118].Nodup) ∧
    [1, 119].map s.image? = [entryOne.newImage, entryLast.newImage].map some ∧ ¬ IsStation 120 ∧
    IsStation 119 := by
  refine ⟨accepting _ _ rfl (by decide), by decide, by decide, notStation0, ?_, ⟨118, by decide, rfl⟩,
    ?_, rfl, notStation120, isStation119⟩ <;>
  · unfold IsStation; decide

theorem test_witness_WriteOutputsStagesItsItems :
    let s := placed .ready .online
    let good : List OutputItem := [⟨1, [5#8]⟩, ⟨119, []⟩]
    let absent : List OutputItem := [⟨118, [5#8]⟩]
    let long : List OutputItem := [⟨1, [5#8, 6#8]⟩]
    let formed (items : List OutputItem) : Prop :=
      items ≠ [] ∧ (∀ i ∈ items, IsStation i.address) ∧ (items.map (·.address)).Nodup
    s.Accepting 1#8 ∧ (withLease (.expired 10) s).Accepting 1#8 ∧ ¬ formed [] ∧ formed absent ∧
    (∃ i ∈ absent, s.image? i.address = none) ∧ formed long ∧
    (∀ i ∈ long, s.image? i.address ≠ none) ∧
    (¬ ∀ i ∈ long, ∃ e, s.entry? i.address = some e ∧ i.bytes.length = e.outWidth) ∧ formed good ∧
    (∀ i ∈ good, s.image? i.address ≠ none) ∧
    ∀ i ∈ good, ∃ e, s.entry? i.address = some e ∧ i.bytes.length = e.outWidth := by
  refine ⟨accepting _ _ rfl (by decide), accepting _ _ rfl (by decide), fun h => h.1 rfl, ?_,
    ⟨_, .head _, rfl⟩, ?_, by decide, fun h => ?_, ?_, by decide, fun i hi => ?_⟩
  · unfold IsStation; decide
  · unfold IsStation; decide
  · obtain ⟨e, he, hl⟩ := h _ (.head _)
    obtain rfl : entryOne = e := Option.some.inj he
    exact absurd hl (by decide)
  · unfold IsStation; decide
  · simp only [List.mem_cons, List.not_mem_nil, or_false] at hi
    rcases hi with rfl | rfl
    · exact ⟨entryOne, rfl, rfl⟩
    · exact ⟨entryLast, rfl, rfl⟩

theorem test_witness_LeaseSetAndRenewed :
    let good (p : Nat) : Prop := p = 0 ∨ 10 ≤ p ∧ p ≤ 10000 ∧ p % 10 = 0
    let off := placed .ready .online
    let expired := withLease (.expired 20) off
    let active := withLease (.active 20 7) off
    off.Accepting 1#8 ∧ expired.Accepting 1#8 ∧ active.Accepting 1#8 ∧ ¬ good 10010 ∧ ¬ good 5 ∧
    good 10000 ∧ good 10 ∧ (∀ q, off.image.lease ≠ .expired q) ∧
    (∀ q, active.image.lease ≠ .expired q) ∧ (∃ q, expired.image.lease = .expired q) ∧
    (∃ q due, active.image.lease = .active q due) ∧ ∀ q due, expired.image.lease ≠ .active q due :=
  ⟨accepting _ _ rfl (by decide), accepting _ _ rfl (by decide), accepting _ _ rfl (by decide),
    by decide, by decide, by decide, by decide, fun _ h => (nomatch h), fun _ h => (nomatch h), ⟨_, rfl⟩,
    ⟨_, _, rfl⟩, fun _ _ h => nomatch h⟩

theorem test_witness_LeaseExpiryWritesFallback :
    (withLease (.active 10 240000) (placed .ready .online)).image.lease = .active 10 240000 ∧
    (placed .ready .online).image? entryOne.newImage.address = some entryOne.newImage ∧
    (placed .ready .online).entry? entryOne.newImage.address = some entryOne ∧
    ∀ p due, State.reset.image.lease ≠ .active p due := ⟨rfl, rfl, rfl, fun _ _ h => nomatch h⟩

theorem test_witness_SubmitAppendsAQueuedRecord :
    let good (a : SubmitArg) : Prop := IsStation a.address ∧ a.service ≤ 255 ∧ a.data.length ≤ 64 ∧
      10 ≤ a.deadline ∧ a.deadline ≤ 60000
    let full := withRecords ((List.range 24).map fun k => record (k + 1) .queued) (placed .ready .online)
    let room := withRecords [record 1 .queued] (placed .ready .online)
    room.Accepting 1#8 ∧ room.requests.Bounded ∧ full.Accepting 1#8 ∧ full.requests.Bounded ∧
    ¬ good { submitArg with deadline := 9 } ∧ ¬ good { submitArg with deadline := 60001 } ∧
    good submitArg ∧ good { submitArg with address := 118, deadline := 60000 } ∧
    room.entry? 118 = none ∧ room.entry? 1 ≠ none ∧ full.entry? 1 ≠ none ∧
    24 ≤ full.requests.records.length ∧ room.requests.records.length < 24 := by
  refine ⟨accepting _ _ rfl (by decide), ?_, accepting _ _ rfl (by decide), ?_, ?_, ?_, ?_, ?_, rfl,
    by decide, by decide, by decide +kernel, by decide⟩
  · unfold RequestQueue.Bounded; decide +kernel
  · unfold RequestQueue.Bounded; decide +kernel
  all_goals unfold IsStation; decide

/-- A queued, an awaiting and a DONE record. -/
def threeRecords : State :=
  withRecords [record 1 .queued, record 2 .awaiting, record 255 finished] (placed .sweeping .online)

theorem test_witness_TransactionsReadAndCollected :
    threeRecords.Accepting 1#8 ∧ (3 : Nat) ≠ 0 ∧ threeRecords.txn? 3 = none ∧
    threeRecords.txn? 1 = some (record 1 .queued) ∧ (record 1 .queued).state = .queued ∧
    threeRecords.txn? 2 = some (record 2 .awaiting) ∧ (record 2 .awaiting).state = .awaiting ∧
    threeRecords.txn? 255 = some (record 255 finished) ∧ ∃ e, (record 255 finished).state = .done e :=
  ⟨accepting _ _ rfl (by decide), by decide, rfl, rfl, rfl, rfl, rfl, rfl, _, rfl⟩

theorem test_witness_CancelAndDeadlineEndARecord :
    threeRecords.Accepting 1#8 ∧ threeRecords.txn? 3 = none ∧
    threeRecords.txn? 1 = some (record 1 .queued) ∧ (record 1 .queued).state = .queued ∧
    threeRecords.txn? 2 = some (record 2 .awaiting) ∧ (record 2 .awaiting).state = .awaiting ∧
    threeRecords.txn? 255 = some (record 255 finished) ∧ ∃ e, (record 255 finished).state = .done e :=
  ⟨accepting _ _ rfl (by decide), rfl, rfl, rfl, rfl, rfl, rfl, _, rfl⟩

theorem faultList_law : twoFaults.faults.Law := test_witness_FaultListStaysLawful.1

theorem test_witness_FaultsReadAndAcknowledged :
    let c : Capture :=
      { address := 1, code := .noAnswer, sweep := 1#32, state := some .lost, failure := some .timeout,
        active := true, disposition := .appended }
    let s := { State.reset with faults := { State.reset.faults with capture := some c } }
    State.reset.Accepting 1#8 ∧ State.reset.faults.capture = none ∧ s.Accepting 1#8 ∧
    s.faults.capture = some c ∧ twoFaults.Accepting 1#8 ∧ 119 < 120 ∧ 7 < 8 ∧ (119 : Nat) ≤ 119 ∧
    7 = FaultCode.overrun.code ∧
    (∀ e ∈ twoFaults.faults.entries, ¬ (e.address = 119 ∧ e.code = .overrun)) ∧
    twoFaults.faults.Law ∧
    twoFaults.faults.entries = [faultEntry 0 .overrun] ++ faultEntry 119 .mismatch :: [] ∧
    (faultEntry 119 .mismatch).address ≤ 119 ∧ State.reset.faults.entries = [] :=
  ⟨accepting _ _ rfl (by decide), rfl, accepting _ _ rfl (by decide), rfl,
    accepting _ _ rfl (by decide), by decide, by decide, by decide, rfl, by decide, faultList_law, rfl,
    by decide, rfl⟩

def fullFaults : FaultList := faultList ((List.range 12).map fun k => faultEntry k .restarted)

theorem test_witness_FaultRaisesFold :
    twoFaults.faults.Law ∧
    twoFaults.faults.entries = [faultEntry 0 .overrun] ++ faultEntry 119 .mismatch :: [] ∧
    (faultEntry 119 .mismatch).address = (raised 119 .mismatch).address ∧
    (faultEntry 119 .mismatch).code = (raised 119 .mismatch).code ∧
    (∀ e ∈ twoFaults.faults.entries, ¬ (e.address = 118 ∧ e.code = .mismatch)) ∧
    twoFaults.faults.entries.length < 12 ∧ fullFaults.Law ∧
    (∀ e ∈ fullFaults.entries, ¬ (e.address = 12 ∧ e.code = .restarted)) ∧
    fullFaults.entries.length = 12 := by
  refine ⟨faultList_law, rfl, rfl, rfl, by decide, by decide, ?_, by decide +kernel, by decide +kernel⟩
  unfold FaultList.Law
  decide +kernel

theorem test_witness_NoticeClassesAndCreditSet :
    State.reset.Accepting 1#8 ∧ 7 = NoticeKind.code .sweepDone ∧ 3 ≤ 3 ∧ 7 < 8 ∧ 3 < 4 ∧ 1 ≤ 255 ∧
    255 ≤ 255 ∧ 255 < 256 :=
  ⟨accepting _ _ rfl (by decide), rfl, by decide⟩

theorem test_witness_FetchNoticeTakesTheHead :
    State.reset.Accepting 1#8 ∧ State.reset.notices.entries = [] ∧ twoNotices.Accepting 1#8 ∧
    twoNotices.notices.entries = [noticeEntry 1 1] ++ noticeEntry 255 3 :: [] ∧
    (∀ f ∈ [noticeEntry 1 1], f.cls < (noticeEntry 255 3).cls) ∧
    ∀ f ∈ ([] : List NoticeEntry), f.cls ≤ (noticeEntry 255 3).cls :=
  ⟨accepting _ _ rfl (by decide), rfl, accepting _ _ rfl (by decide), rfl, by decide, by decide⟩

/-- Sixteen notices of one class. -/
def fullNotices (cls : Nat) : NoticeQueue :=
  noticeQueue ((List.range 16).map fun k => noticeEntry (k + 1) cls)

theorem fullNotices_law : (fullNotices 1).Law ∧ (fullNotices 3).Law := by
  unfold NoticeQueue.Law ClassTable.Legal
  decide +kernel

theorem test_witness_NoticeRaisesFold :
    let quiet := { noticeQueue [] with classes := { ClassTable.default with requestDone := 0 } }
    let done (id : Nat) : Notice := .requestDone id .ok 1 none
    (noticeQueue []).Law ∧ quiet.Law ∧ quiet.classes.get (done 1).kind = 0 ∧
    (fullNotices 1).Law ∧ (fullNotices 1).classes.get (done 16).kind = 2 ∧
    (fullNotices 1).entries = (fullNotices 1).entries.take 15 ++ noticeEntry 16 1 :: [] ∧
    (noticeEntry 16 1).notice.matter = (done 16).matter ∧
    (∀ e ∈ (fullNotices 1).entries, e.notice.matter ≠ (done 17).matter) ∧
    (noticeQueue []).entries.length < 16 ∧ (fullNotices 1).entries.length = 16 ∧
    (∀ f ∈ (fullNotices 1).entries.take 15, 1 ≤ f.cls) ∧ (fullNotices 3).Law ∧
    (∀ e ∈ (fullNotices 3).entries, 2 ≤ e.cls) := by
  refine ⟨?_, ?_, rfl, fullNotices_law.1, rfl, by decide +kernel, by decide, by decide +kernel, by decide,
    by decide +kernel, by decide +kernel, fullNotices_law.2, by decide +kernel⟩ <;>
  · unfold NoticeQueue.Law ClassTable.Legal; decide +kernel

/-- The echo clauses at the first, a middle and the last character of a frame, at its stop bit's instant
and at the last one that is still in time. -/
theorem test_witness_EngineSendsWaitsAndGuards :
    let sending := serving poll .sending none .online
    let echoes (k : Nat) : State :=
      withEngine (fun e => { e with attempt := some ⟨false, 300, k, 264⟩ }) sending
    let guarded := serving poll .guard none .online
    let safe := withSweep (fun c => { c with closing := some ⟨.off, false⟩ })
      (serving safeExchange .sending none .online)
    let safeLast :=
      withEngine (fun e => { e with due := 1584, attempt := some ⟨false, 300, 5, 264⟩ }) safe
    sending.engine.state = .sending ∧ sending.engine.exchange = some poll ∧ poll.chooser ≠ .safe ∧
    sending.engine.attempt = some ⟨false, 300, 0, 264⟩ ∧
    State.reset.engine.state ≠ .sending ∧
    (echoes 6).engine.attempt = some ⟨false, 300, 6, 264⟩ ∧ 6 < poll.payload.length + 6 ∧
    poll.bytes[0]? = some 0x96#8 ∧ 0 ≤ 5000 - (poll.payload.length + 6 - (0 + 1)) * 264 + 264 ∧
    poll.bytes[6]? = some ((FieldChar.of (poll.bytes.getLast (by decide))).value) ∧
    6 + 1 = poll.payload.length + 6 ∧ (FieldChar.of 0x96#8).ok = true ∧
    ({ FieldChar.of 0x96#8 with parity := true } : FieldChar).ok = false ∧
    ({ FieldChar.of 0x96#8 with stop := false } : FieldChar).ok = false ∧
    safeLast.engine.attempt = some ⟨false, 300, 5, 264⟩ ∧ 5 + 1 = safeExchange.payload.length + 6 ∧
    guarded.engine.state = .guard ∧
    guarded.engine.exchange = some poll ∧ guarded.engine.frame = none ∧
    (serving poll .guard (some begun) .online).engine.frame.isSome = true ∧
    (withEngine (fun e => { e with exchange := none }) guarded).engine.exchange = none ∧
    State.reset.engine.state ≠ .guard ∧ safe.engine.state = .sending ∧
    safe.engine.exchange = some safeExchange ∧ safeExchange.chooser = .safe ∧
    safe.sweep.closing = some ⟨.off, false⟩ ∧ safe.sweep.line = .sweeping := by decide +kernel

/-- The end of a SAFE broadcast for each way a closing can go, with a copy pending and AWAITING records. -/
theorem test_witness_EngineSendsWaitsAndGuards_closing :
    ∀ c : Closing,
      let s := copying (requested (withSweep (fun w => { w with closing := some c })
        (serving safeExchange .sending none .online)))
      s.engine.state = .sending ∧ s.engine.exchange = some safeExchange ∧
      s.sweep.closing = some c ∧ s.sweep.line = .sweeping ∧ s.roster.pendingCopy ≠ none ∧
      s.RecordsMatchRoster ∧ s.LiveRecordsRostered ∧ record 2 .awaiting ∈ s.requests.records :=
  fun _ => ⟨rfl, rfl, rfl, rfl, nofun, ⟨rfl, rfl⟩, requested_live _ rfl rfl, requested_awaits _⟩

theorem serving_rosters (x : Exchange) (e : EngineState) (f : Option TakenFrame) (st : StationState) :
    (serving x e f st).RostersLegal := placed_rosters .sweeping st

/-- The same state under another loss policy. -/
def underPolicy (p : RejoinPolicy) (s : State) : State :=
  withRoster (fun m => { m with committed :=
    { m.committed with header := { m.committed.header with policy := p } } }) s

theorem underPolicy_rosters (p : RejoinPolicy) (x : Exchange) (e : EngineState) (f : Option TakenFrame)
    (st : StationState) : (underPolicy p (serving x e f st)).RostersLegal :=
  ⟨roster_legal, policy_legal p, roster_fits, fun _ h => nomatch h⟩

/-- Station 1 with one miss, at its entry's limit of 2 with the next. -/
def oneMiss (st : StationState) (s : State) : State :=
  { s with stations := [{ entryOne.freshStation with state := st, miss := 1 }, entryLast.freshStation] }

theorem test_witness_CyclicFailuresRepeatThenCountMisses :
    let last : Exchange := { poll with made := 1 }
    let ident : Exchange := identExchange .cyclic 1 1
    let fresh (st : StationState) : Station := { entryOne.freshStation with state := st }
    let bad : List Byte := [0#8, 1#8, 2#8]
    let s (k : Bool) (p : RejoinPolicy) (x : Exchange) (st : StationState) (e : EngineState)
        (f : Option TakenFrame) : State :=
      withSweep (fun c => { c with cut := k }) (underPolicy p (serving x e f st))
    poll.chooser = .cyclic ∧ poll.kind = .poll ∧ ident.chooser = .cyclic ∧ ident.kind = .ident ∧
    poll.made + 1 < poll.limit ∧ last.limit ≤ last.made + 1 ∧ ident.limit ≤ ident.made + 1 ∧
    (∀ k p x st e f, (s k p x st e f).sweep.line = .sweeping ∧ (s k p x st e f).sweep.cut = k ∧
      (s k p x st e f).RecordsMatchRoster ∧ (s k p x st e f).RostersLegal ∧
      (s k p x st e f).station? 1 = some (fresh st) ∧
      (oneMiss st (s k p x st e f)).station? 1 = some { fresh st with miss := 1 } ∧
      (s k p x st e f).entry? 1 = some entryOne ∧
      (s k p x st e f).roster.committed.header.policy = p ∧
      (s k p x st e f).requests.records = [] ∧ (s k p x st e f).roster.pendingCopy = none) ∧
    (fresh .online).miss + 1 < entryOne.missLimit ∧
    entryOne.missLimit ≤ { fresh .online with miss := 1 }.miss + 1 ∧
    (∀ k p st, Failing (s k p poll st) poll 2 128 bad ∧ Failing (s k p poll st) poll 1 136 bad ∧
      Failing (s k p last st) last 1 136 bad ∧ Failing (s k p ident st) ident 1 128 bad ∧
      Failing (fun e f => oneMiss st (s k p last st e f)) last 2 128 bad ∧
      Failing (fun e f => copying (requested (oneMiss st (s k p last st e f)))) last 2 128 bad) ∧
    (∀ k p st e f, let t := copying (requested (oneMiss st (s k p last st e f)))
      t.sweep.line = .sweeping ∧ t.sweep.cut = k ∧ t.RecordsMatchRoster ∧ t.RostersLegal ∧
      t.station? 1 = some { fresh st with miss := 1 } ∧ t.entry? 1 = some entryOne ∧
      t.roster.committed.header.policy = p ∧ t.LiveRecordsRostered ∧
      record 2 .awaiting ∈ t.requests.records) := by
  refine ⟨rfl, rfl, rfl, rfl, by decide, by decide, by decide, fun k p x st e f =>
    ⟨rfl, rfl, ⟨rfl, rfl⟩, underPolicy_rosters p x e f st, rfl, rfl, rfl, rfl, rfl, rfl⟩,
    by decide, by decide, fun k p st => ⟨?_, ?_, ?_, ?_, ?_, ?_⟩, fun k p st e f =>
    ⟨rfl, rfl, ⟨rfl, rfl⟩, ⟨roster_legal, policy_legal p, roster_fits, fun _ h => ?_⟩, rfl, rfl, rfl,
      requested_live _ rfl rfl, requested_awaits _⟩⟩
  case refine_7 => obtain rfl := Option.some.inj h; exact ⟨roster_legal, roster_fits⟩
  all_goals refine failing _ _ _ _ _ (fun e f => ⟨rfl, rfl, rfl⟩) ?_ ?_ ?_ ?_ fun w h => ?_
  all_goals first
    | decide
    | exact not_master_128
    | exact not_master_136
    | exact absurd h.1 (by decide)
    | exact absurd h.2.1 (by decide)

/-- The payload of a good DATA of station 1: these flags, two input bytes. -/
def dataOf (flags : Byte) : List Byte := [flags, 0xAA#8, 0xBB#8]

theorem goodComes (s : State) (flags : Byte) (hs : s.engine.state = .receiving)
    (hx : s.engine.exchange = some poll) (hf : s.engine.frame = some begun) :
    s.ReplyComes poll (frameChars 1 128 (dataOf flags)) 1 128 (dataOf flags) :=
  replyComes _ _ _ _ _ hs hx hf (by decide) (by decide) (by simp [dataOf])

/-- A DATA with every flag and with none, in a sweep marked for cutting and in one that is not, and the
restart of a station with an AWAITING record. -/
theorem test_witness_GoodDataIsTaken :
    let fresh (st : StationState) : Station := { entryOne.freshStation with state := st }
    let s (k : Bool) (st : StationState) : State :=
      withSweep (fun c => { c with cut := k }) (serving poll .receiving (some begun) st)
    let restarting (k : Bool) (st : StationState) : State := requested (s k st)
    poll.chooser = .cyclic ∧ poll.kind = .poll ∧ poll.address = 1 ∧
    128 + 8 * poll.toggle.toNat = 128 ∧ [0xAA#8, 0xBB#8].length = entryOne.inWidth ∧
    (∀ k st, (s k st).sweep.line = .sweeping ∧ (s k st).sweep.cut = k ∧
      (s k st).RecordsMatchRoster ∧ (s k st).RostersLegal ∧ (s k st).station? 1 = some (fresh st) ∧
      (s k st).entry? 1 = some entryOne ∧ (s k st).requests.records = [] ∧
      ∀ flags, (s k st).ReplyComes poll (frameChars 1 128 (dataOf flags)) 1 128 (dataOf flags)) ∧
    (fresh .disabled).state ≠ .online ∧ (fresh .disabled).state ≠ .faltering ∧
    (7#8).getLsbD 0 = true ∧ (7#8).getLsbD 2 = true ∧ (0#8).getLsbD 2 = false ∧
    (∀ k st, (restarting k st).sweep.line = .sweeping ∧ (restarting k st).RecordsMatchRoster ∧
      (restarting k st).RostersLegal ∧ (restarting k st).station? 1 = some (fresh st) ∧
      (restarting k st).entry? 1 = some entryOne ∧
      (restarting k st).ReplyComes poll (frameChars 1 128 (dataOf 4#8)) 1 128 (dataOf 4#8) ∧
      record 2 .awaiting ∈ (restarting k st).requests.records) := by
  refine ⟨rfl, rfl, rfl, rfl, rfl, fun k st => ⟨rfl, rfl, ⟨rfl, rfl⟩,
    serving_rosters poll .receiving (some begun) st, rfl, rfl, rfl, fun flags => goodComes _ _ rfl rfl rfl⟩, by decide, by decide, by decide, by decide, by decide,
    fun k st => ⟨rfl, ⟨rfl, rfl⟩, serving_rosters poll .receiving (some begun) st, rfl, rfl,
      goodComes _ _ rfl rfl rfl, requested_awaits _⟩⟩

theorem test_witness_IdentityAdmitsOrMismatches :
    let fresh (st : StationState) : Station := { entryOne.freshStation with state := st }
    let good : List Byte := [255#8, 255#8, 2#8, 1#8, 0#8]
    let other : List Byte := [0#8, 0#8, 16#8, 0#8, 9#8]
    let s (k : Bool) (x : Exchange) (st : StationState) (e : EngineState) (f : Option TakenFrame) :
        State :=
      withSweep (fun c => { c with cut := k }) (serving x e f st)
    entryOne.classCode = 0 ∧ entryOne.inWidth = 2 ∧ entryOne.outWidth = 1 ∧
    (fresh .pending).state = .pending ∧ (fresh .lost).state = .lost ∧
    (fresh .parked).state ≠ .lost ∧ (fresh .parked).state ≠ .pending ∧
    ∀ c, c = Chooser.cyclic ∨ c = Chooser.probe →
      let x := identExchange c 1 1
      x.chooser = c ∧ x.kind = .ident ∧ x.limit ≤ x.made + 1 ∧
      ∀ k st, (∀ e f, (s k x st e f).sweep.line = .sweeping ∧ (s k x st e f).sweep.cut = k ∧
          (s k x st e f).RecordsMatchRoster ∧ (s k x st e f).RostersLegal ∧
          (s k x st e f).station? x.address = some (fresh st) ∧
          (s k x st e f).entry? x.address = some entryOne) ∧
        Failing (s k x st) x 2 144 good ∧
        ∀ payload, payload = good ∨ payload = other →
          (s k x st .receiving (some begun)).ReplyComes x (frameChars 1 144 payload) x.address 144
            payload := by
  refine ⟨rfl, rfl, rfl, rfl, rfl, by decide, by decide, fun c _ => ⟨rfl, rfl, Nat.le_refl 1,
    fun k st => ⟨fun e f => ⟨rfl, rfl, ⟨rfl, rfl⟩, serving_rosters (identExchange c 1 1) e f st, rfl, rfl⟩,
      failing _ _ _ _ _ (fun e f => ⟨rfl, rfl, rfl⟩) (by decide) (by decide) (by decide)
        not_master_144 (fun w h => absurd h.1 (by simp [identExchange])),
      fun p hp => replyComes _ _ _ _ _ rfl rfl rfl (by decide) (by decide) ?_⟩⟩⟩
  rcases hp with rfl | rfl <;> decide

theorem threeRecords_bounded : threeRecords.requests.Bounded := by
  unfold RequestQueue.Bounded
  decide +kernel

/-- A slot's exchange to station 1 in the Acyclic phase, with three records. -/
def slotted (k : Bool) (x : Exchange) (st : StationState) (e : EngineState) (f : Option TakenFrame) :
    State :=
  withRecords [record 1 .queued, record 2 .awaiting, record 255 finished]
    (withSweep (fun c => { c with phase := .acyclic, cut := k }) (serving x e f st))

theorem test_witness_AcyclicOutcomesMoveTheirRecords :
    let slot (m : MasterKind) (payload : List Byte) : Exchange :=
      { poll with chooser := .acyclic, kind := m, payload := payload, limit := 1 }
    let req (id : Byte) : Exchange := slot .req [id, 3#8, 9#8]
    let fetch : Exchange := slot .fetch [2#8]
    (∀ id, (req id).chooser = .acyclic ∧ (req id).payload.head? = some id ∧ (req id).kind = .req) ∧
    IsStation 1 ∧ fetch.chooser = .acyclic ∧ fetch.payload.head? = some 2#8 ∧ fetch.kind = .fetch ∧
    (∀ k m p st, let x := slot m p
      x.limit ≤ x.made + 1 ∧ Failing (slotted k x st) x 2 160 [1#8, 0#8, 7#8] ∧
      ∀ e f, (slotted k x st e f).sweep.line = .sweeping ∧ (slotted k x st e f).sweep.cut = k ∧
        (slotted k x st e f).requests.Bounded ∧
        (slotted k x st e f).requests.records =
          [record 1 .queued, record 2 .awaiting, record 255 finished]) ∧
    (record 1 .queued).id = (1#8 : Byte).toNat ∧ (record 2 .awaiting).id = (2#8 : Byte).toNat ∧
    (∀ t ∈ [record 1 .queued, record 2 .awaiting, record 255 finished], t.id ≠ (9#8 : Byte).toNat) ∧
    (∀ k id st payload, payload = [id, 0#8, 7#8] ∨ payload = id :: 1#8 :: 7#8 :: [5#8] ∨
        payload = [id, 2#8, 7#8] →
      (slotted k (req id) st .receiving (some begun)).ReplyComes (req id) (frameChars 1 160 payload)
        1 160 payload) ∧
    (slotted false (req 1#8) .online .receiving (some begun)).polled 1 = true ∧
    (slotted false (req 1#8) .lost .receiving (some begun)).polled 1 = false ∧
    (∀ k (rid : Byte), (slotted k fetch .online .receiving (some begun)).ReplyComes fetch
      (frameChars 1 176 [rid, 0#8, 4#8]) 1 176 [rid, 0#8, 4#8]) ∧
    (∀ k, (slotted k fetch .online .receiving (some begun)).ReplyComes fetch (frameChars 1 192 [2#8])
      1 192 [2#8]) := by
  refine ⟨fun _ => ⟨rfl, rfl, rfl⟩, isStation1, rfl, rfl, rfl, fun k m p st => ⟨Nat.le_refl 1,
    failing _ _ _ _ _ (fun e f => ⟨rfl, rfl, rfl⟩) (by decide) (by decide) (by decide) not_master_160
      (fun w h => absurd h.1 (by simp [poll])), fun e f => ⟨rfl, rfl, threeRecords_bounded, rfl⟩⟩,
    rfl, rfl, by decide, fun k id st payload hp => ?_, by decide, by decide, fun k rid => ?_, fun k => ?_⟩
  · refine replyComes _ _ _ _ _ rfl rfl rfl (by decide) (by decide) ?_
    rcases hp with rfl | rfl | rfl <;> simp
  · exact replyComes _ _ _ _ _ rfl rfl rfl (by decide) (by decide) (by simp)
  · exact replyComes _ _ _ _ _ rfl rfl rfl (by decide) (by decide) (by decide)

/-- The Acyclic phase with a slot left and the Probe phase: records, marks and station states each in turn. -/
theorem test_witness_EachPhaseSendsWhatItsRuleChooses :
    let fresh (st : StationState) : Station := { entryOne.freshStation with state := st }
    let sweeps (st : StationState) : State :=
      withSweep (fun c => { c with number := 1#32, slots := 2 }) (placed .sweeping st)
    let marks (l : List Nat) (s : State) : State := { s with requests := { s.requests with marks := l } }
    let fetches := marks [1] (withRecords [record 1 .queued, record 2 .awaiting] (sweeps .online))
    let drains := marks [1, 119] (withRecords [record 1 .queued] (sweeps .online))
    let sends := withRecords [record 255 finished, record 1 .queued] (sweeps .online)
    let probed (n : Nat) : State := withSweep (fun c => { c with probe := n }) (sweeps .lost)
    (∀ st, (sweeps st).sweep.cursor = 0) ∧
    (sweeps .pending).ServesNext 1#32 0 entryOne (fresh .pending) ∧
    (sweeps .faltering).ServesNext 1#32 0 entryOne (fresh .faltering) ∧
    (sweeps .faltering).image? 1 = some entryOne.newImage ∧
    (∀ e ∈ (sweeps .parked).roster.committed.entries, 0 < e.address →
      (1#32).toNat % e.divisor = e.address % e.divisor →
      e.address = 1 ∧ (sweeps .parked).station? 1 = some (fresh .parked)) ∧
    (placed .sweeping .online).sweep.slots = 0 ∧ 0 < fetches.sweep.slots ∧
    fetches.requests.records = [record 1 .queued] ++ record 2 .awaiting :: [] ∧
    (record 2 .awaiting).address ∈ fetches.requests.marks ∧
    (record 2 .awaiting).address ∉ fetches.sweep.passedOver ∧
    0 < drains.sweep.slots ∧ (∀ v ∈ drains.requests.records, v.state ≠ .awaiting) ∧
    Ascending drains.requests.marks ∧ 1 ∈ drains.requests.marks ∧ (∀ b, b < 1 → b ∉ [1, 119]) ∧
    sends.requests.marks = [] ∧
    sends.requests.records = [record 255 finished] ++ record 1 .queued :: [] ∧
    sends.polled 1 = true ∧ sends.sweep.passedOver = [] ∧
    (sends.requests.records.filter (·.state == .awaiting)).length < 4 ∧
    (sweeps .online).requests.records = [] ∧
    Ascending ((sweeps .lost).roster.committed.entries.map (·.address)) ∧
    1 ∈ (sweeps .lost).roster.committed.entries.map (·.address) ∧
    (sweeps .lost).station? 1 = some (fresh .lost) ∧ (probed 0).sweep.probe < 1 ∧
    (probed 1).sweep.probe = 1 ∧ ((probed 1).station? 119).map (·.state) = some .pending ∧
    (∀ r ∈ (sweeps .online).stations, r.state ≠ .lost) := by
  refine ⟨fun _ => rfl, servesOne _ _ _ rfl rfl (.inl rfl), servesOne _ _ _ rfl rfl (.inr (.inr rfl)),
    rfl, ?_, rfl, by decide, rfl, by decide, by decide, by decide, by decide, ?_, by decide, ?_, rfl, rfl,
    rfl, rfl, by decide, rfl, roster_legal.2.1, by decide, rfl, by decide, rfl, rfl, by decide⟩
  · intro e he _ hd
    change e ∈ [entryOne, entryLast] at he
    simp only [List.mem_cons, List.not_mem_nil, or_false] at he
    rcases he with rfl | rfl
    · exact ⟨rfl, rfl⟩
    · exact absurd hd (by decide)
  · unfold Ascending; decide
  · simp

/-- A sweep in END, its last exchange reported. -/
def ending (p : Plan) : State :=
  withSweep (fun c => { c with phase := .ending, number := 9#32, plan := p }) (placed .sweeping .online)

theorem test_witness_SweepsEndByTheirPlanOrByACut :
    let live (p : Plan) : State := withRecords [record 1 .awaiting] (ending p)
    let counted (n : Nat) : State := withSweep (fun c => { c with remaining := n }) (live (.counted 65535))
    let paced (now : Nat) : State :=
      { withSweep (fun c => { c with pacing := some ⟨0, 1⟩ }) (live (.paced 5)) with now := now }
    let stopped (s : State) : State := withSweep (fun c => { c with stop := true }) s
    let cutting (c : Option Closing) : State :=
      withRecords [record 1 .awaiting] (withSweep (fun w => { w with closing := c, cut := true })
        (serving poll .guard none .online))
    let bare : State :=
      { withRoster (fun m => { m with committed := .empty }) (serving poll .guard none .online) with
        stations := [], image := State.reset.image }
    (∀ c, (cutting c).RecordsMatchRoster ∧ (cutting c).LiveRecordsRostered ∧
      (cutting c).sweep.line = .sweeping ∧ (cutting c).sweep.closing = c ∧
      (cutting c).roster.committed.entries ≠ [] ∧ (cutting c).roster.pendingCopy = none) ∧
    bare.RecordsMatchRoster ∧ bare.LiveRecordsRostered ∧ bare.sweep.line = .sweeping ∧
    bare.sweep.closing = none ∧ bare.roster.committed.entries = [] ∧
    bare.roster.pendingCopy = none ∧
    (∀ p, (live p).RecordsMatchRoster ∧ (live p).LiveRecordsRostered ∧
      (live p).roster.committed.entries ≠ [] ∧ (live p).sweep.stop = false ∧
      (live p).roster.pendingCopy = none ∧ (live p).sweep.plan = p) ∧
    (counted 1).sweep.plan = .counted 65535 ∧ (counted 1).sweep.remaining ≤ 1 ∧
    1 < (counted 2).sweep.remaining ∧ (stopped (counted 2)).sweep.stop = true ∧
    (stopped (live .free)).sweep.stop = true ∧ (paced 0).sweep.pacing = some ⟨0, 1⟩ ∧
    (stopped (paced 0)).sweep.stop = true ∧ (paced 11999).now < 0 + 1 * (5 * 2400) ∧
    (paced 12000).now = 0 + 1 * (5 * 2400) ∧ 0 + 1 * (5 * 2400) < (paced 12001).now ∧
    (after .pacedWaitEnd (paced 0)) = paced 0 := by
  refine ⟨fun c => ⟨⟨rfl, rfl⟩, ?_, rfl, rfl, List.cons_ne_nil _ _, rfl⟩, ⟨rfl, rfl⟩, ?_, rfl,
    rfl, rfl, rfl, fun p => ⟨⟨rfl, rfl⟩, ?_, List.cons_ne_nil _ _, rfl, rfl, rfl⟩, rfl, by decide, by decide, rfl,
    rfl, rfl, rfl, by decide, rfl, by decide, rfl⟩ <;>
  · intro t ht _
    first
      | exact nomatch (show t ∈ ([] : List Txn) from ht)
      | (obtain rfl := List.mem_singleton.1 ht; rfl)

/-- Frames being taken, awaited and not: one that grows, one that its length field and one that its 78th
character ends, and stray ones: short, of no master kind, and with a wrong CRC. -/
theorem test_witness_UnawaitedCharactersAndStrayFrames :
    let taking (chars : List FieldChar) (e : EngineState) : State :=
      serving poll e (some { begun with chars := chars }) .online
    let reply := begun.chars ++ frameChars 1 128 []
    let spoilt := begun.chars ++ (frameChars 1 128 []).dropLast ++ [FieldChar.of 1#8]
    let long (n : Nat) := List.replicate n (FieldChar.of 0xFF#8)
    State.reset.sweep.line = .off ∧ State.reset.engine.state ≠ .sending ∧
    (placed (.halted .policy) .online).sweep.line = .halted .policy ∧
    (placed .ready .online).sweep.line ≠ .off ∧
    (∀ h, (placed .ready .online).sweep.line ≠ .halted h) ∧
    (placed .ready .online).engine.state ≠ .sending ∧
    (placed .ready .online).engine.frame = none ∧
    (serving poll .window none .online).engine.state = .window ∧
    (placed .listening .online).sweep.line = .listening ∧
    (∀ chars e, (taking chars e).sweep.line = .sweeping ∧ (taking chars e).engine.state = e ∧
      (taking chars e).engine.frame = some { begun with chars := chars }) ∧
    ¬ FrameEnds (begun.chars ++ [FieldChar.of 1#8]) ∧
    FrameEnds (reply.dropLast ++ [FieldChar.of (crcBytes (fieldCrc [1#8, 128#8, 0#8]))[1]]) ∧
    ¬ FrameEnds (long 76 ++ [FieldChar.of 0xFF#8]) ∧ FrameEnds (long 77 ++ [FieldChar.of 0xFF#8]) ∧
    (∀ e, (taking begun.chars e).TakesWhole (frameChars 1 128 []) reply ∧
      (taking begun.chars e).TakesWhole [] begun.chars) ∧
    Broken begun.chars ∧ Intact reply 1 128 [] ∧ ¬ MasterControl 128 ∧ Broken spoilt ∧
    Broken (long 78) ∧ State.reset.engine.frame = none := by
  refine ⟨rfl, by decide, rfl, by decide, fun _ h => (by cases h), by decide, rfl, rfl, rfl,
    fun _ _ => ⟨rfl, rfl, rfl⟩, ?_, ?_, ?_, ?_, fun e => ⟨⟨_, rfl, rfl, ?_⟩, _, rfl, rfl, fun _ _ h => nomatch h⟩,
    begun_broken, frame_intact 1 128 [] (by decide) (by decide) (by decide), not_master_128,
    .inr (.inr (.inr ⟨0x96#8, [1#8, 128#8, 0#8], [_, 1#8], rfl, rfl, by decide +kernel⟩)),
    .inr (.inr (.inl ⟨_, rfl, by decide⟩)), rfl⟩
  · rintro (⟨l, h, -⟩ | h)
    · cases h
    · exact absurd h (by decide)
  · exact .inl ⟨_, rfl, of_ok _, by decide, rfl⟩
  · rintro (⟨l, h, -, h2, -⟩ | h)
    · obtain rfl := Option.some.inj h
      exact absurd h2 (by decide)
    · exact absurd h (by decide)
  · exact .inr (by decide)
  · intro k h0 hk
    have hk : k < 5 := hk
    obtain rfl | rfl | rfl | rfl : k = 1 ∨ k = 2 ∨ k = 3 ∨ k = 4 := by omega
    all_goals
      rintro (⟨l, h, -, -, h3⟩ | h)
      · cases h <;> exact absurd h3 (by decide +kernel)
      · exact absurd h (by decide +kernel)

/-- What follows the delimiter of a SAFE broadcast that another master sends. -/
def foreign : List FieldChar := (safeExchange.bytes.drop 1).map fun b => FieldChar.of b

theorem test_witness_ContentionHaltsTheLine :
    let s := serving poll .guard (some begun) .online
    let r := serving poll .receiving (some begun) .online
    (serving poll .sending none .online).engine.state = .sending ∧ State.reset.engine.state ≠ .sending ∧
    s.engine.frame = some begun ∧ begun.chars.length = 1 ∧ s.sweep.line.hears = true ∧
    (∀ c ∈ begun.chars ++ foreign, c.ok = true) ∧ safeExchange.payload.length ≤ 72 ∧
    begun.chars.map (·.value) ++ foreign.map (·.value) = safeExchange.bytes ∧
    s.engine.state = .guard ∧ r.engine.frame = some begun ∧ r.engine.state = .receiving ∧
    r.engine.exchange.isSome = true ∧ s.sweep.line = .sweeping ∧ s.sweep.phase.running = true ∧
    s.roster.pendingCopy = none ∧ surveying.survey.status = .running ∧ surveying.sweep.line ≠ .sweeping ∧
    (∀ u ∈ s.requests.records, u.isAwaiting = false) := by decide +kernel

/-- A sweep with a copy pending and AWAITING records, sending, between exchanges and receiving. -/
theorem test_witness_ContentionHaltsTheLine_copy :
    ∀ e f, let s := copying (requested (serving poll e f .online))
      s.engine.state = e ∧ s.engine.frame = f ∧ s.sweep.line = .sweeping ∧
      s.sweep.phase.running = true ∧ s.roster.pendingCopy ≠ none ∧ s.RecordsMatchRoster ∧
      s.LiveRecordsRostered ∧ record 2 .awaiting ∈ s.requests.records :=
  fun _ _ => ⟨rfl, rfl, rfl, rfl, nofun, ⟨rfl, rfl⟩, requested_live _ rfl rfl, requested_awaits _⟩

end Sys2Proof.Tests
end

section
/-! SUPPORT. Proofs: look-ups by address, and the addresses two rosters name together. -/

namespace Sys2Proof.Machine

/-! ## Look-ups by a key -/

/-- A key is found exactly where it is listed. -/
theorem find?_key_isSome {α : Type} (key : α → Nat) (l : List α) (a : Nat) :
    (l.find? (key · == a)).isSome = true ↔ a ∈ l.map key := by
  simp

/-- A key is not found exactly where it is not listed. -/
theorem find?_key_eq_none {α : Type} (key : α → Nat) (l : List α) (a : Nat) :
    l.find? (key · == a) = none ↔ a ∉ l.map key := by
  simp

/-- Where no key comes twice, a member is what its key finds. -/
theorem find?_key_of_mem {α : Type} {key : α → Nat} {l : List α} (h : (l.map key).Nodup) {x : α}
    (hx : x ∈ l) : l.find? (key · == key x) = some x := by
  induction l with
  | nil => cases hx
  | cons y l ih =>
    obtain ⟨hy, hl⟩ := List.nodup_cons.mp h
    obtain rfl | hx := List.mem_cons.mp hx
    · simp
    · have hne : key y ≠ key x := fun e => hy (e ▸ List.mem_map_of_mem hx)
      simp [hne, ih hl hx]

/-- A list rebuilt over keyed elements, each under its own key, is searched through the elements. -/
theorem find?_map_key {α β : Type} {key : α → Nat} {key' : β → Nat} {f : α → β}
    (h : ∀ x, key' (f x) = key x) (l : List α) (a : Nat) :
    (l.map f).find? (key' · == a) = (l.find? (key · == a)).map f := by
  rw [List.find?_map]
  congr 2
  funext x
  simp [h x]

/-- Ascending addresses repeat none. -/
theorem Ascending.nodup {l : List Nat} (h : Ascending l) : l.Nodup := h.imp Nat.ne_of_lt

/-- Ascending lists with the same members are equal. -/
theorem Ascending.eq_of_mem_iff {l m : List Nat} (hl : Ascending l) (hm : Ascending m)
    (h : ∀ a, a ∈ l ↔ a ∈ m) : l = m := by
  have hperm : l.Perm m := (List.perm_ext_iff_of_nodup hl.nodup hm.nodup).mpr h
  refine hperm.eq_of_pairwise (fun a b _ _ hab hba => ?_) hl hm
  omega

/-- The entry found is one of the roster's, under the address. -/
theorem Roster.entry?_some {r : Roster} {a : Nat} {e : RosterEntry} (h : r.entry? a = some e) :
    e ∈ r.entries ∧ e.address = a :=
  ⟨List.mem_of_find?_eq_some h, by simpa using List.find?_some h⟩

theorem Roster.entry?_isSome {r : Roster} {a : Nat} :
    (r.entry? a).isSome = true ↔ a ∈ r.entries.map (·.address) :=
  find?_key_isSome _ _ _

theorem Roster.entry?_eq_none {r : Roster} {a : Nat} :
    r.entry? a = none ↔ a ∉ r.entries.map (·.address) :=
  find?_key_eq_none _ _ _

/-- A legal roster's entry is the one its address finds (R1). -/
theorem Roster.Legal.entry?_of_mem {r : Roster} (h : r.Legal) {e : RosterEntry}
    (he : e ∈ r.entries) : r.entry? e.address = some e := by
  obtain ⟨-, hasc, -, -⟩ := h
  exact find?_key_of_mem hasc.nodup he

theorem State.station?_some {s : State} {a : Nat} {t : Station} (h : s.station? a = some t) :
    t ∈ s.stations ∧ t.address = a :=
  ⟨List.mem_of_find?_eq_some h, by simpa using List.find?_some h⟩

/-! ## Ascending lists of addresses (R1, R18) -/

theorem mem_insertAddress {a b : Nat} {l : List Nat} :
    b ∈ insertAddress a l ↔ b = a ∨ b ∈ l := by
  induction l with
  | nil => simp [insertAddress]
  | cons c l ih =>
    unfold insertAddress
    split
    · simp
    · split
      · subst c; simp
      · rw [List.mem_cons, ih, List.mem_cons, or_left_comm]

theorem Ascending.insertAddress {a : Nat} {l : List Nat} (h : Ascending l) :
    Ascending (insertAddress a l) := by
  induction l with
  | nil => exact List.pairwise_singleton _ _
  | cons c l ih =>
    obtain ⟨hc, hl⟩ := List.pairwise_cons.mp h
    unfold Machine.insertAddress
    split
    · next hac =>
      refine List.pairwise_cons.mpr ⟨fun b hb => ?_, h⟩
      obtain rfl | hb := List.mem_cons.mp hb
      · exact hac
      · exact Nat.lt_trans hac (hc b hb)
    · split
      · exact h
      · refine List.pairwise_cons.mpr ⟨fun b hb => ?_, ih hl⟩
        obtain rfl | hb := mem_insertAddress.mp hb
        · omega
        · exact hc b hb

theorem mem_foldl_insertAddress {b : Nat} (new old : List Nat) :
    b ∈ new.foldl (fun l a => insertAddress a l) old ↔ b ∈ new ∨ b ∈ old := by
  induction new generalizing old with
  | nil => simp
  | cons a new ih => rw [List.foldl_cons, ih, mem_insertAddress, List.mem_cons, or_assoc, or_left_comm]

/-- The addresses of an application are those with an entry in either roster (R18). -/
theorem mem_unionAddresses {old new : Roster} {a : Nat} :
    a ∈ unionAddresses old new ↔ (old.entry? a).isSome = true ∨ (new.entry? a).isSome = true := by
  rw [Roster.entry?_isSome, Roster.entry?_isSome, unionAddresses, mem_foldl_insertAddress]
  exact or_comm

theorem Roster.Legal.unionAddresses_ascending {old : Roster} (h : old.Legal) (new : Roster) :
    Ascending (unionAddresses old new) := by
  obtain ⟨-, hasc, -, -⟩ := h
  unfold unionAddresses
  generalize new.entries.map (·.address) = l
  generalize old.entries.map (·.address) = m at hasc
  induction l generalizing m with
  | nil => exact hasc
  | cons a l ih => exact ih _ hasc.insertAddress

/-- A legal roster's addresses are 1..119 (R3). -/
theorem Roster.Legal.lt_of_isSome {r : Roster} (h : r.Legal) {a : Nat}
    (ha : (r.entry? a).isSome = true) : a < 120 := by
  obtain ⟨-, -, -, hlegal⟩ := h
  obtain ⟨e, he⟩ := Option.isSome_iff_exists.mp ha
  obtain ⟨hmem, rfl⟩ := Roster.entry?_some he
  obtain ⟨-, h119, -⟩ := hlegal e hmem
  omega

/-- Between legal rosters, the addresses of an application ascend through 1..119 (R18). -/
theorem unionAddresses_eq {old new : Roster} (ho : old.Legal) (hn : new.Legal) :
    unionAddresses old new = (List.range 120).filter fun a =>
      (old.entry? a).isSome || (new.entry? a).isSome := by
  refine (ho.unionAddresses_ascending new).eq_of_mem_iff (List.pairwise_lt_range.filter _) fun a => ?_
  rw [mem_unionAddresses, List.mem_filter, List.mem_range, Bool.or_eq_true]
  exact ⟨fun h => ⟨h.elim ho.lt_of_isSome hn.lt_of_isSome, h⟩, And.right⟩

/-! ## Classes of addresses (R18) -/

section
variable {old new : Roster} {a : Nat}

/-- A Changed address has an entry in both rosters. -/
theorem addressClass_changed (h : addressClass old new a = .changed) :
    (old.entry? a).isSome = true ∧ (new.entry? a).isSome = true := by
  unfold addressClass at h
  cases ho : old.entry? a <;> cases hn : new.entry? a <;> simp_all

/-- A New address has an entry in the new roster alone. -/
theorem addressClass_new (h : addressClass old new a = .new) :
    old.entry? a = none ∧ (new.entry? a).isSome = true := by
  unfold addressClass at h
  cases ho : old.entry? a <;> cases hn : new.entry? a <;> simp_all
  split at h <;> cases h

/-- A Removed address has an entry in the old roster alone. -/
theorem addressClass_removed :
    addressClass old new a = .removed ↔ (old.entry? a).isSome = true ∧ new.entry? a = none := by
  unfold addressClass
  cases old.entry? a <;> cases new.entry? a <;> simp
  split <;> simp

/-- A Kept address with an entry keeps its key (R3, R18). -/
theorem addressClass_kept {f : RosterEntry} (h : addressClass old new a = .kept)
    (hf : new.entry? a = some f) : ∃ e, old.entry? a = some e ∧ e.sameKey f = true := by
  unfold addressClass at h
  rw [hf] at h
  cases ho : old.entry? a with
  | none => rw [ho] at h; cases h
  | some e =>
    rw [ho] at h
    refine ⟨e, rfl, ?_⟩
    dsimp only at h
    split at h
    · assumption
    · cases h

/-- Whatever is ended or marked by an application has an address that it goes through. -/
theorem mem_unionAddresses_of_class (h : addressClass old new a ≠ .kept) :
    a ∈ unionAddresses old new := by
  rw [mem_unionAddresses]
  cases hc : addressClass old new a with
  | kept => exact absurd hc h
  | changed => exact .inl (addressClass_changed hc).1
  | new => exact .inr (addressClass_new hc).2
  | removed => exact .inl (addressClass_removed.mp hc).1

theorem addressClass_kept_of_not_mem (h : a ∉ unionAddresses old new) :
    addressClass old new a = .kept :=
  Classical.not_not.mp fun hk => h (mem_unionAddresses_of_class hk)

end

end Sys2Proof.Machine
end

section
/-! SUPPORT. Proofs: what applying a roster leaves of each block (R18 to R23), and `State.Applied`. -/

namespace Sys2Proof.Machine

/-! ## Folds over addresses -/

/-- What every turn of a fold keeps, the fold keeps. -/
theorem foldl_keeps {σ β α : Type} {f : σ → β → σ} (π : σ → α) (h : ∀ s b, π (f s b) = π s)
    (l : List β) (s : σ) : π (l.foldl f s) = π s := by
  induction l generalizing s with
  | nil => rfl
  | cons b l ih => rw [List.foldl_cons, ih, h]

/-- A property that every turn of a fold keeps holds after the fold. -/
theorem foldl_induct {σ β : Type} {f : σ → β → σ} {P : σ → Prop} (h : ∀ s b, P s → P (f s b))
    (l : List β) {s : σ} (hs : P s) : P (l.foldl f s) := by
  induction l generalizing s with
  | nil => exact hs
  | cons b l ih => exact ih (h s b hs)

/-- A fold that changes, turn by turn, the elements of one address, each once and for all, changes the
elements of all its addresses. -/
theorem foldl_map_at {σ α : Type} {f : σ → Nat → σ} (P : σ → Prop) (π : σ → List α) (key : α → Nat)
    (g : α → α) (hkey : ∀ x, key (g x) = key x) (hidem : ∀ x, g (g x) = g x)
    (hP : ∀ s a, P s → P (f s a))
    (hstep : ∀ s a, P s → π (f s a) = (π s).map fun x => if key x = a then g x else x)
    (l : List Nat) {s : σ} (hs : P s) :
    π (l.foldl f s) = (π s).map fun x => if key x ∈ l then g x else x := by
  induction l generalizing s with
  | nil => simp
  | cons a l ih =>
    rw [List.foldl_cons, ih (hP s a hs), hstep s a hs, List.map_map]
    refine List.map_congr_left fun x _ => ?_
    by_cases ha : key x = a
    · by_cases hl : key x ∈ l <;> simp [ha, hkey, hidem, ha ▸ hl]
    · simp [ha]

/-! ## Ending transactions (R116, R134) -/

/-- A record that stands for the same request, in its state or no longer live. -/
def Txn.Settles (u v : Txn) : Prop :=
  v.id = u.id ∧ v.address = u.address ∧ (v.state = u.state ∨ v.live = false)

theorem Txn.Settles.refl (u : Txn) : u.Settles u := ⟨rfl, rfl, .inl rfl⟩

theorem Txn.live_iff {u : Txn} : u.live = true ↔ u.state = .queued ∨ u.state = .awaiting := by
  cases h : u.state <;> simp [Txn.live, h]

theorem Txn.isAwaiting_iff {u : Txn} : u.isAwaiting = true ↔ u.state = .awaiting := by
  simp [Txn.isAwaiting]

theorem Txn.isQueued_iff {u : Txn} : u.isQueued = true ↔ u.state = .queued := by
  simp [Txn.isQueued]

theorem Txn.live_of_isAwaiting {u : Txn} (h : u.isAwaiting = true) : u.live = true :=
  Txn.live_iff.mpr (.inr (Txn.isAwaiting_iff.mp h))

/-- A live record that another settles to was in the same state. -/
theorem Txn.Settles.state_eq {u v : Txn} (h : u.Settles v) (hv : v.live = true) :
    v.state = u.state := by
  obtain ⟨-, -, hstate | hdone⟩ := h
  · exact hstate
  · rw [hv] at hdone; cases hdone

theorem Txn.Settles.trans {u v w : Txn} (h : u.Settles v) (h' : v.Settles w) : u.Settles w := by
  refine ⟨h'.1.trans h.1, h'.2.1.trans h.2.1, ?_⟩
  by_cases hw : w.live = true
  · have hwv := h'.state_eq hw
    have hv : v.live = true := by rw [Txn.live_iff] at hw ⊢; rwa [← hwv]
    exact .inl (hwv.trans (h.state_eq hv))
  · exact .inr (by simpa using hw)

/-- What is not live, or does not await, stays so. -/
theorem Txn.Settles.live_false {u v : Txn} (h : u.Settles v) (hu : u.live = false) :
    v.live = false := by
  refine Bool.eq_false_iff.mpr fun hv => Bool.eq_false_iff.mp hu ?_
  rwa [Txn.live_iff, ← h.state_eq hv, ← Txn.live_iff]

theorem Txn.Settles.isAwaiting_false {u v : Txn} (h : u.Settles v) (hu : u.isAwaiting = false) :
    v.isAwaiting = false := by
  refine Bool.eq_false_iff.mpr fun hv => Bool.eq_false_iff.mp hu ?_
  rwa [Txn.isAwaiting_iff, ← h.state_eq (Txn.live_of_isAwaiting hv), ← Txn.isAwaiting_iff]

theorem Txn.settles_endedBy (u : Txn) (c : ResultCode) (w : Word) : u.Settles (u.endedBy c w) :=
  ⟨rfl, rfl, .inr rfl⟩

/-- Records that stand for the same requests in the same order, each in its state or no longer live. -/
inductive Settles : List Txn → List Txn → Prop where
  | nil : Settles [] []
  | cons {u v : Txn} {l m : List Txn} : u.Settles v → Settles l m → Settles (u :: l) (v :: m)

theorem Settles.map {f : Txn → Txn} (h : ∀ u : Txn, u.Settles (f u)) (l : List Txn) :
    Settles l (l.map f) := by
  induction l with
  | nil => exact .nil
  | cons u l ih => exact .cons (h u) ih

theorem Settles.refl (l : List Txn) : Settles l l := by
  have h := Settles.map Txn.Settles.refl l
  rwa [List.map_id'] at h

theorem Settles.trans {l m n : List Txn} (h : Settles l m) (h' : Settles m n) : Settles l n := by
  induction h generalizing n with
  | nil => exact h'
  | cons huv _ ih =>
    cases h' with
    | cons hvw h' => exact .cons (huv.trans hvw) (ih h')

/-- The record that another one was. -/
theorem Settles.mem {l m : List Txn} (h : Settles l m) {v : Txn} (hv : v ∈ m) :
    ∃ u ∈ l, u.Settles v := by
  induction h with
  | nil => cases hv
  | @cons u w l m huw _ ih =>
    obtain rfl | hv := List.mem_cons.mp hv
    · exact ⟨u, List.mem_cons_self, huw⟩
    · obtain ⟨u', hu', h'⟩ := ih hv
      exact ⟨u', List.mem_cons_of_mem _ hu', h'⟩

theorem Settles.ids {l m : List Txn} (h : Settles l m) : m.map (·.id) = l.map (·.id) := by
  induction h with
  | nil => rfl
  | cons huv _ ih => rw [List.map_cons, List.map_cons, huv.1, ih]

/-- No record starts awaiting by settling. -/
theorem Settles.awaiting {l m : List Txn} (h : Settles l m) :
    ((m.filter (·.isAwaiting)).map (·.address)).Sublist
      ((l.filter (·.isAwaiting)).map (·.address)) := by
  induction h with
  | nil => exact .slnil
  | @cons u v l m huv _ ih =>
    by_cases hv : v.isAwaiting = true
    · have hu : u.isAwaiting = true := by
        rw [Txn.isAwaiting_iff] at hv ⊢
        rw [← huv.state_eq (Txn.live_iff.mpr (.inr hv)), hv]
      obtain ⟨-, haddr, -⟩ := huv
      rw [List.filter_cons_of_pos hv, List.filter_cons_of_pos hu, List.map_cons, List.map_cons, haddr]
      exact ih.cons_cons _
    · rw [List.filter_cons_of_neg hv]
      exact ih.trans (((List.sublist_cons_self u l).filter _).map _)

section
variable (s : State) (p : Txn → Bool) (c : ResultCode)

/-- The records a hand-off ends, set in their places, and their notices (R134, R135). -/
theorem State.endTxns_eq : s.endTxns p c =
    let ended := s.requests.records.filter fun t => t.live && p t
    { s with
      requests := { s.requests with records := s.requests.records.map fun u =>
        if u.id ∈ (ended.map (·.id)) then u.endedBy c s.sweep.number else u }
      notices := ended.foldl (fun q u => q.take (.requestDone u.id c u.address none)) s.notices } :=
  State.endTxn_foldl c _ s

theorem State.endTxns_notices : (s.endTxns p c).notices =
    (s.requests.records.filter fun t => t.live && p t).foldl
      (fun q u => q.take (.requestDone u.id c u.address none)) s.notices := by
  rw [State.endTxns_eq]

theorem State.endTxns_settles : Settles s.requests.records (s.endTxns p c).requests.records := by
  rw [State.endTxns_eq]
  refine Settles.map (fun u => ?_) _
  split
  · exact u.settles_endedBy _ _
  · exact .refl u

/-- What is live after a hand-off was not named by it. -/
theorem State.endTxns_live {v : Txn} (hv : v ∈ (s.endTxns p c).requests.records)
    (hlive : v.live = true) : p v = false := by
  rw [State.endTxns_eq] at hv
  obtain ⟨u, hu, rfl⟩ := List.mem_map.mp hv
  split at hlive
  · cases hlive
  · next hid =>
    rw [if_neg hid]
    refine Bool.eq_false_iff.mpr fun hp => hid (List.mem_map_of_mem (List.mem_filter.mpr ⟨hu, ?_⟩))
    rw [hlive, hp, Bool.and_self]

/-- Where no two records have one id, exactly the live ones named are ended, in their places. -/
theorem State.endTxns_records (h : (s.requests.records.map (·.id)).Nodup) :
    (s.endTxns p c).requests.records = s.requests.records.map fun u =>
      if u.live = true ∧ p u = true then u.endedBy c s.sweep.number else u := by
  rw [State.endTxns_eq]
  refine List.map_congr_left fun u hu => ?_
  have key : u.id ∈ (s.requests.records.filter fun t => t.live && p t).map (·.id) ↔
      u.live = true ∧ p u = true := by
    rw [List.mem_map]
    constructor
    · rintro ⟨v, hv, hid⟩
      obtain ⟨hv, hp⟩ := List.mem_filter.mp hv
      obtain rfl := Txn.eq_of_id h hu hv hid
      simpa using hp
    · exact fun hp => ⟨u, List.mem_filter.mpr ⟨hu, by simpa using hp⟩, rfl⟩
  simp only [key]

@[simp] theorem State.endTxns_marks : (s.endTxns p c).requests.marks = s.requests.marks :=
  s.endTxns_keeps (·.requests.marks) (fun _ _ _ => rfl) p c
@[simp] theorem State.endTxns_nextId : (s.endTxns p c).requests.nextId = s.requests.nextId :=
  s.endTxns_keeps (·.requests.nextId) (fun _ _ _ => rfl) p c
@[simp] theorem State.endTxns_orphans : (s.endTxns p c).requests.orphans = s.requests.orphans :=
  s.endTxns_keeps (·.requests.orphans) (fun _ _ _ => rfl) p c

end

/-! ## Inactive marks (R20, R141, R142) -/

/-- An inactive mark sets the entries of its address and code, active or not (R141). -/
theorem FaultList.mark_entries (a : Nat) (c : FaultCode) (l : FaultList) :
    (l.mark a c).entries = l.entries.map (quietEntry a c) := by
  unfold FaultList.mark
  split
  · rfl
  · next h =>
    have hfix : ∀ e ∈ l.entries, quietEntry a c e = id e := fun e he => by
      unfold quietEntry
      split
      · next hof =>
        have hact : e.active = false := by
          refine Bool.eq_false_iff.mpr fun hact => h (List.any_eq_true.mpr ⟨e, he, ?_⟩)
          rw [hof, hact, Bool.and_self]
        rw [← hact]
        rfl
      · rfl
    rw [List.map_congr_left hfix, List.map_id]

theorem FaultList.mark_overflow (a : Nat) (c : FaultCode) (l : FaultList) :
    (l.mark a c).overflow = l.overflow := by
  unfold FaultList.mark; split <;> rfl

theorem FaultList.mark_capture (a : Nat) (c : FaultCode) (l : FaultList) :
    (l.mark a c).capture = l.capture := by
  unfold FaultList.mark; split <;> rfl

/-- FLT goes on following the list (R142). -/
theorem FaultList.mark_flt {l : FaultList} (h : l.flt = anyActive l.entries) (a : Nat)
    (c : FaultCode) : (l.mark a c).flt = anyActive (l.mark a c).entries := by
  unfold FaultList.mark; split
  · rfl
  · exact h

section
variable (s : State) (a : Nat)

@[simp] theorem State.markInactive_faults (c : FaultCode) :
    (s.markInactive a c).faults = s.faults.mark a c := rfl

/-- The entries of a station that can be active are inactive (R20, R21). -/
theorem State.markStation_entries : (s.markStation a).faults.entries =
    s.faults.entries.map fun e =>
      if e.address = a ∧ (e.code = .noAnswer ∨ e.code = .mismatch ∨ e.code = .stationAlarm) then
        { e with active := false }
      else e := by
  unfold State.markStation
  simp only [State.markInactive_faults, FaultList.mark_entries, List.map_map]
  refine List.map_congr_left fun e _ => ?_
  by_cases ha : e.address = a
  · cases hc : e.code <;> simp [quietEntry, FaultEntry.isOf, ha, hc]
  · simp [quietEntry, FaultEntry.isOf, ha]

theorem State.markStation_overflow : (s.markStation a).faults.overflow = s.faults.overflow := by
  simp [State.markStation, FaultList.mark_overflow]

theorem State.markStation_capture : (s.markStation a).faults.capture = s.faults.capture := by
  simp [State.markStation, FaultList.mark_capture]

theorem State.markStation_flt {s : State} (h : s.faults.flt = anyActive s.faults.entries) (a : Nat) :
    (s.markStation a).faults.flt = anyActive (s.markStation a).faults.entries :=
  FaultList.mark_flt (FaultList.mark_flt (FaultList.mark_flt h _ _) _ _) _ _

end

/-! ## One address of an application (R20, R21) -/

section
variable (old new : Roster) (a : Nat) (s : State)

@[simp] theorem State.applyAddress_roster : (s.applyAddress old new a).roster = s.roster := by
  unfold State.applyAddress; split <;> simp
@[simp] theorem State.applyAddress_stations :
    (s.applyAddress old new a).stations = s.stations := by
  unfold State.applyAddress; split <;> simp
@[simp] theorem State.applyAddress_sweep : (s.applyAddress old new a).sweep = s.sweep := by
  unfold State.applyAddress; split <;> simp
@[simp] theorem State.applyAddress_engine : (s.applyAddress old new a).engine = s.engine := by
  unfold State.applyAddress; split <;> simp
@[simp] theorem State.applyAddress_image : (s.applyAddress old new a).image = s.image := by
  unfold State.applyAddress; split <;> simp
@[simp] theorem State.applyAddress_survey : (s.applyAddress old new a).survey = s.survey := by
  unfold State.applyAddress; split <;> simp
@[simp] theorem State.applyAddress_host : (s.applyAddress old new a).host = s.host := by
  unfold State.applyAddress; split <;> simp
@[simp] theorem State.applyAddress_now : (s.applyAddress old new a).now = s.now := by
  unfold State.applyAddress; split <;> simp
@[simp] theorem State.applyAddress_pending : (s.applyAddress old new a).pending = s.pending := by
  unfold State.applyAddress; split <;> simp
@[simp] theorem State.applyAddress_marks :
    (s.applyAddress old new a).requests.marks = s.requests.marks := by
  unfold State.applyAddress; split <;> simp
@[simp] theorem State.applyAddress_nextId :
    (s.applyAddress old new a).requests.nextId = s.requests.nextId := by
  unfold State.applyAddress; split <;> simp
@[simp] theorem State.applyAddress_orphans :
    (s.applyAddress old new a).requests.orphans = s.requests.orphans := by
  unfold State.applyAddress; split <;> simp

theorem State.applyAddress_settles :
    Settles s.requests.records (s.applyAddress old new a).requests.records := by
  unfold State.applyAddress
  split
  · exact .refl _
  · simpa using s.endTxns_settles _ _
  · simpa using Settles.refl _
  · simpa using s.endTxns_settles _ _

/-- What an application leaves AWAITING, or live at all, at an address it has gone through (R20, R21). -/
theorem State.applyAddress_left {v : Txn} (hv : v ∈ (s.applyAddress old new a).requests.records)
    (ha : v.address = a) :
    (addressClass old new a = .changed → v.isAwaiting = false) ∧
    (addressClass old new a = .removed → v.live = false) := by
  unfold State.applyAddress at hv
  constructor <;> intro hc <;> rw [hc] at hv <;> refine Bool.eq_false_iff.mpr fun hlive => ?_
  · have hended := s.endTxns_live _ _ (by simpa using hv) (Txn.live_of_isAwaiting hlive)
    simp [hlive, ha] at hended
  · have hended := s.endTxns_live _ _ (by simpa using hv) hlive
    simp [ha] at hended

/-- Where no two records have one id, the records of the address are set as the application sets them. -/
theorem State.applyAddress_records (h : (s.requests.records.map (·.id)).Nodup) :
    (s.applyAddress old new a).requests.records = s.requests.records.map fun u =>
      if u.address = a then u.afterApplication (addressClass old new) s.sweep.number else u := by
  unfold State.applyAddress
  cases hc : addressClass old new a
  case kept | new =>
    refine Eq.trans (by simp) (List.map_id'' (fun u => ?_) _).symm
    split
    · next ha => simp [Txn.afterApplication, ha, hc]
    · rfl
  case changed | removed =>
    simp only [State.announce_requests, State.markStation_requests, State.endTxns_records _ _ _ h]
    refine List.map_congr_left fun u _ => ?_
    by_cases ha : u.address = a
    · cases hu : u.state <;> simp [Txn.afterApplication, Txn.live, Txn.isAwaiting, ha, hc, hu]
    · simp [ha]

theorem State.applyAddress_entries : (s.applyAddress old new a).faults.entries =
    s.faults.entries.map fun e =>
      if e.address = a then e.afterApplication (addressClass old new) else e := by
  unfold State.applyAddress
  cases hc : addressClass old new a
  case kept | new =>
    refine Eq.trans (by simp) (List.map_id'' (fun e => ?_) _).symm
    split
    · next ha => simp [FaultEntry.afterApplication, ha, hc]
    · rfl
  case changed | removed =>
    simp only [State.announce_faults, State.markStation_entries, State.endTxns_faults]
    refine List.map_congr_left fun e _ => ?_
    by_cases ha : e.address = a <;> simp [FaultEntry.afterApplication, ha, hc]

theorem State.applyAddress_overflow :
    (s.applyAddress old new a).faults.overflow = s.faults.overflow := by
  unfold State.applyAddress; split <;> simp [State.markStation_overflow]

theorem State.applyAddress_capture :
    (s.applyAddress old new a).faults.capture = s.faults.capture := by
  unfold State.applyAddress; split <;> simp [State.markStation_capture]

theorem State.applyAddress_flt {s : State} (h : s.faults.flt = anyActive s.faults.entries) (a : Nat) :
    (s.applyAddress old new a).faults.flt = anyActive (s.applyAddress old new a).faults.entries := by
  unfold State.applyAddress
  split
  · exact h
  · simp only [State.announce_faults]
    exact State.markStation_flt (by simpa using h) a
  · simpa using h
  · exact State.markStation_flt (by simpa using h) a

end

/-! ## The notices of an application (R20, R21, R43, R135) -/

/-- REQUEST_DONE of the records of an address in these states, in their order (R135). -/
def endNotices (records : List Txn) (a : Nat) (states : List TxnState) (c : ResultCode) :
    List Notice :=
  (records.filter fun u => u.address == a && states.contains u.state).map fun u =>
    .requestDone u.id c a none

/-- STATION_STATE of the fresh record of an address (R43). -/
def freshNotice (new : Roster) (a : Nat) : List Notice :=
  ((new.entry? a).map fun e =>
    Notice.stationState a (if e.startDisabled then .disabled else .pending) none 0).toList

/-- What an application raises at one address (R20, R21, R43). -/
def addressNotices (old new : Roster) (records : List Txn) (a : Nat) : List Notice :=
  match addressClass old new a with
  | .kept => []
  | .changed => endNotices records a [.awaiting] .stationDown ++ freshNotice new a
  | .new => freshNotice new a
  | .removed => endNotices records a [.queued, .awaiting] .stationRemoved

/-- The claims' list of an application's notices is these, over the addresses 1..119 that have an entry. -/
theorem State.applicationNotices_eq (s : State) (new : Roster) :
    s.applicationNotices new =
      let old := s.roster.committed
      let all := (List.range 120).filter fun a => (old.entry? a).isSome || (new.entry? a).isSome
      let number (c : AddressClass) := (all.filter (addressClass old new · == c)).length
      all.flatMap (addressNotices old new s.requests.records) ++
        [.commitApplied (s.roster.generation + 1) (number .kept) (number .changed) (number .new)
          (number .removed)] := rfl

end Sys2Proof.Machine
end

section
/-! SUPPORT. Proofs: the notices of an application in their order, and `State.Applied` as a whole. -/

namespace Sys2Proof.Machine

/-! ## Raising at one address -/

/-- A station that has a fresh record announces it (R43). -/
theorem State.announce_fresh {s : State} {a : Nat} {e : RosterEntry}
    (h : s.station? a = some e.freshStation) :
    (s.announce a none).notices =
      s.notices.take (.stationState a (if e.startDisabled then .disabled else .pending) none 0) := by
  unfold State.announce
  rw [h]
  rfl

/-- The notices of one address, where its record is the fresh one if it is Changed or New. -/
theorem State.applyAddress_notices {old new : Roster} {a : Nat} {s : State}
    (h : addressClass old new a ≠ .kept → ∀ e, new.entry? a = some e →
      s.station? a = some e.freshStation) :
    (s.applyAddress old new a).notices =
      (addressNotices old new s.requests.records a).foldl (fun q n => q.take n) s.notices := by
  have hends (states : List TxnState) (p : Txn → Bool) (c : ResultCode)
      (hp : ∀ u : Txn, (u.live && p u) = (u.address == a && states.contains u.state)) :
      (s.endTxns p c).notices = (endNotices s.requests.records a states c).foldl
        (fun q n => q.take n) s.notices := by
    have hmap : endNotices s.requests.records a states c =
        (s.requests.records.filter fun u => u.live && p u).map fun u =>
          .requestDone u.id c u.address none := by
      simp only [hp]
      refine List.map_congr_left fun u hu => ?_
      have ha : u.address = a := by simp_all
      rw [ha]
    rw [State.endTxns_notices, hmap, List.foldl_map]
  unfold State.applyAddress addressNotices
  cases hc : addressClass old new a with
  | kept => rfl
  | changed =>
    obtain ⟨e, he⟩ := Option.isSome_iff_exists.mp (addressClass_changed hc).2
    have hst := h (by simp [hc]) e he
    dsimp only
    rw [State.announce_fresh (e := e) (by simpa [State.station?] using hst), List.foldl_append,
      State.markStation_notices, hends [.awaiting] _ _ fun u => ?_]
    · simp [freshNotice, he]
    · cases hu : u.state <;> simp [Txn.live, Txn.isAwaiting, hu]
  | new =>
    obtain ⟨e, he⟩ := Option.isSome_iff_exists.mp (addressClass_new hc).2
    dsimp only
    rw [State.announce_fresh (h (by simp [hc]) e he)]
    simp [freshNotice, he]
  | removed =>
    dsimp only
    rw [State.markStation_notices, hends [.queued, .awaiting] _ _ fun u => ?_]
    cases hu : u.state <;> simp [Txn.live, hu]

/-- What is raised at another address does not turn on the records of this one. -/
theorem addressNotices_congr {old new : Roster} {b : Nat} {l : List Txn} {g : Txn → Txn}
    (hg : ∀ u, u.address = b → g u = u) (ha : ∀ u, (g u).address = u.address) :
    addressNotices old new (l.map g) b = addressNotices old new l b := by
  have hfilter (states : List TxnState) :
      (l.map g).filter (fun u => u.address == b && states.contains u.state) =
        l.filter fun u => u.address == b && states.contains u.state := by
    induction l with
    | nil => rfl
    | cons u l ih =>
      rw [List.map_cons, List.filter_cons, List.filter_cons, ih, ha]
      by_cases hu : u.address = b
      · rw [hg u hu]
      · simp [hu]
  simp only [addressNotices, endNotices, hfilter]

/-- The notices of the addresses gone through, each once, in their order. -/
theorem State.applyAddresses_notices {old new : Roster} {l : List Nat} (hl : l.Nodup) {s : State}
    (hid : (s.requests.records.map (·.id)).Nodup)
    (h : ∀ a, addressClass old new a ≠ .kept → ∀ e, new.entry? a = some e →
      s.station? a = some e.freshStation) :
    (l.foldl (fun s a => s.applyAddress old new a) s).notices =
      (l.flatMap (addressNotices old new s.requests.records)).foldl (fun q n => q.take n)
        s.notices := by
  induction l generalizing s with
  | nil => rfl
  | cons a l ih =>
    obtain ⟨ha, hl⟩ := List.nodup_cons.mp hl
    have hid' : ((s.applyAddress old new a).requests.records.map (·.id)).Nodup := by
      rwa [(s.applyAddress_settles old new a).ids]
    have hcongr : l.map (addressNotices old new (s.applyAddress old new a).requests.records) =
        l.map (addressNotices old new s.requests.records) := by
      refine List.map_congr_left fun b hb => ?_
      rw [s.applyAddress_records old new a hid]
      refine addressNotices_congr (fun u hu => ?_) fun u => ?_
      · exact if_neg fun e => ha (by rwa [← e, hu])
      · split
        · unfold Txn.afterApplication; split
          · rfl
          · split <;> rfl
        · rfl
    rw [List.foldl_cons, ih hl hid' (by simpa [State.station?] using h),
      State.applyAddress_notices (h a), List.flatMap_cons, List.foldl_append, List.flatMap, hcongr]
    rfl

/-! ## Records and images after an application (R19 to R21, R24, R96) -/

theorem rebuildStations_find? (old new : Roster) (l : List Station) (a : Nat) :
    (rebuildStations old new l).find? (fun r => r.address == a) = (new.entry? a).map fun e =>
      match addressClass old new e.address, l.find? (·.address == e.address) with
      | .kept, some r => r
      | _, _ => e.freshStation := by
  refine find?_map_key (key := RosterEntry.address) (key' := Station.address) (fun e => ?_) _ _
  split
  · next h => simpa using List.find?_some h
  · rfl

theorem rebuildImages_find? (old new : Roster) (l : List Image) (a : Nat) :
    (rebuildImages old new l).find? (fun i => i.address == a) = (new.entry? a).map fun e =>
      match addressClass old new e.address, l.find? (·.address == e.address) with
      | .kept, some i => i
      | _, _ => e.newImage := by
  refine find?_map_key (key := RosterEntry.address) (key' := Image.address) (fun e => ?_) _ _
  split
  · next h => simpa using List.find?_some h
  · rfl

theorem rebuildStations_addresses (old new : Roster) (l : List Station) :
    (rebuildStations old new l).map (·.address) = new.entries.map (·.address) := by
  rw [rebuildStations, List.map_map]
  refine List.map_congr_left fun e _ => ?_
  dsimp only [Function.comp]
  split
  · next h => simpa using List.find?_some h
  · rfl

theorem rebuildImages_addresses (old new : Roster) (l : List Image) :
    (rebuildImages old new l).map (·.address) = new.entries.map (·.address) := by
  rw [rebuildImages, List.map_map]
  refine List.map_congr_left fun e _ => ?_
  dsimp only [Function.comp]
  split
  · next h => simpa using List.find?_some h
  · rfl

/-- An address that is not Kept starts afresh, or has nothing (R20, R21). -/
theorem rebuilt_of_not_kept {old new : Roster} {a : Nat} (h : addressClass old new a ≠ .kept)
    (l : List Station) (m : List Image) :
    (rebuildStations old new l).find? (fun r => r.address == a) =
      (new.entry? a).map RosterEntry.freshStation ∧
    (rebuildImages old new m).find? (·.address == a) = (new.entry? a).map RosterEntry.newImage := by
  rw [rebuildStations_find?, rebuildImages_find?]
  cases he : new.entry? a with
  | none => exact ⟨rfl, rfl⟩
  | some e =>
    obtain ⟨-, rfl⟩ := Roster.entry?_some he
    constructor <;>
    · simp only [Option.map_some, Option.some.injEq]
      split
      · next hk _ => exact absurd hk h
      · rfl

/-- A Kept address keeps its record and its image (R19). -/
theorem rebuilt_of_kept {s : State} (hs : s.RecordsMatchRoster) {new : Roster} {a : Nat}
    (h : addressClass s.roster.committed new a = .kept) :
    (rebuildStations s.roster.committed new s.stations).find? (·.address == a) = s.station? a ∧
    (rebuildImages s.roster.committed new s.image.images).find? (·.address == a) = s.image? a := by
  obtain ⟨hst, him⟩ := hs
  have hst' := find?_key_isSome Station.address s.stations a
  have him' := find?_key_isSome Image.address s.image.images a
  rw [hst, ← Roster.entry?_isSome] at hst'
  rw [him, ← Roster.entry?_isSome] at him'
  rw [rebuildStations_find?, rebuildImages_find?]
  cases he : new.entry? a with
  | none =>
    have ho : s.roster.committed.entry? a = none := by
      refine Option.not_isSome_iff_eq_none.mp fun ho => ?_
      have hr := addressClass_removed.mpr ⟨ho, he⟩
      rw [h] at hr; cases hr
    rw [ho] at hst' him'
    simp only [Option.isSome_none, Bool.false_eq_true, iff_false, Bool.not_eq_true,
      Option.isSome_eq_false_iff, Option.isNone_iff_eq_none] at hst' him'
    exact ⟨hst'.symm, him'.symm⟩
  | some f =>
    obtain ⟨e, ho, -⟩ := addressClass_kept h he
    obtain ⟨-, rfl⟩ := Roster.entry?_some he
    obtain ⟨r, hr⟩ := Option.isSome_iff_exists.mp (hst'.mpr (by rw [ho]; rfl))
    obtain ⟨i, hi⟩ := Option.isSome_iff_exists.mp (him'.mpr (by rw [ho]; rfl))
    simp [h, hr, hi, State.station?, State.image?]

/-! ## The application (R18 to R23) -/

section
variable (new : Roster) (s : State)

@[simp] theorem State.applyRoster_roster : (s.applyRoster new).roster =
    { s.roster with committed := new, generation := s.roster.generation + 1#32 } := by
  have h := foldl_keeps (·.roster)
    (fun t a => State.applyAddress_roster s.roster.committed new a t)
    (unionAddresses s.roster.committed new) (s.rebuild s.roster.committed new)
  simp only [State.applyRoster, State.raiseNotice_roster, State.onRoster_roster, h]
  rfl
@[simp] theorem State.applyRoster_stations : (s.applyRoster new).stations =
    rebuildStations s.roster.committed new s.stations :=
  foldl_keeps (·.stations) (fun s a => State.applyAddress_stations _ new a s) _ _
@[simp] theorem State.applyRoster_image : (s.applyRoster new).image =
    { s.image with images := rebuildImages s.roster.committed new s.image.images } :=
  foldl_keeps (·.image) (fun s a => State.applyAddress_image _ new a s) _ _
@[simp] theorem State.applyRoster_sweep : (s.applyRoster new).sweep = s.sweep :=
  foldl_keeps (·.sweep) (fun s a => State.applyAddress_sweep _ new a s) _ _
@[simp] theorem State.applyRoster_engine : (s.applyRoster new).engine = s.engine :=
  foldl_keeps (·.engine) (fun s a => State.applyAddress_engine _ new a s) _ _
@[simp] theorem State.applyRoster_survey : (s.applyRoster new).survey = s.survey :=
  foldl_keeps (·.survey) (fun s a => State.applyAddress_survey _ new a s) _ _
@[simp] theorem State.applyRoster_host : (s.applyRoster new).host = s.host :=
  foldl_keeps (·.host) (fun s a => State.applyAddress_host _ new a s) _ _
@[simp] theorem State.applyRoster_now : (s.applyRoster new).now = s.now :=
  foldl_keeps (·.now) (fun s a => State.applyAddress_now _ new a s) _ _
@[simp] theorem State.applyRoster_pending : (s.applyRoster new).pending = s.pending :=
  foldl_keeps (·.pending) (fun s a => State.applyAddress_pending _ new a s) _ _
@[simp] theorem State.applyRoster_marks : (s.applyRoster new).requests.marks =
    rebuildMarks s.roster.committed new s.requests.marks :=
  foldl_keeps (·.requests.marks) (fun s a => State.applyAddress_marks _ new a s) _ _
@[simp] theorem State.applyRoster_nextId :
    (s.applyRoster new).requests.nextId = s.requests.nextId :=
  foldl_keeps (·.requests.nextId) (fun s a => State.applyAddress_nextId _ new a s) _ _
@[simp] theorem State.applyRoster_orphans :
    (s.applyRoster new).requests.orphans = s.requests.orphans :=
  foldl_keeps (·.requests.orphans) (fun s a => State.applyAddress_orphans _ new a s) _ _
theorem State.applyRoster_overflow : (s.applyRoster new).faults.overflow = s.faults.overflow :=
  foldl_keeps (·.faults.overflow) (fun s a => State.applyAddress_overflow _ new a s) _ _
theorem State.applyRoster_capture : (s.applyRoster new).faults.capture = s.faults.capture :=
  foldl_keeps (·.faults.capture) (fun s a => State.applyAddress_capture _ new a s) _ _

/-- An application only ends records, in their places (R20, R21). -/
theorem State.applyRoster_settles :
    Settles s.requests.records (s.applyRoster new).requests.records :=
  foldl_induct (P := fun t : State => Settles s.requests.records t.requests.records)
    (fun _ _ h => h.trans (State.applyAddress_settles ..)) _ (.refl _)

end

/-- What the turn of an address leaves, the turns after it leave as well. -/
theorem State.applyAddresses_left {old new : Roster} {l : List Nat} {s : State} {v : Txn}
    (hv : v ∈ (l.foldl (fun s a => s.applyAddress old new a) s).requests.records)
    (hl : v.address ∈ l) :
    (addressClass old new v.address = .changed → v.isAwaiting = false) ∧
    (addressClass old new v.address = .removed → v.live = false) := by
  induction l generalizing s with
  | nil => cases hl
  | cons a l ih =>
    rw [List.foldl_cons] at hv
    by_cases hmem : v.address ∈ l
    · exact ih hv hmem
    have ha : v.address = a := (List.mem_cons.mp hl).resolve_right hmem
    have hsettles : Settles (s.applyAddress old new a).requests.records
        (l.foldl (fun s a => s.applyAddress old new a) (s.applyAddress old new a)).requests.records :=
      foldl_induct (f := fun s a => s.applyAddress old new a)
        (P := fun t : State => Settles _ t.requests.records)
        (fun _ _ h => h.trans (State.applyAddress_settles ..)) _ (.refl _)
    obtain ⟨u, hu, huv⟩ := hsettles.mem hv
    obtain ⟨hchanged, hremoved⟩ := s.applyAddress_left old new a hu (by rw [← huv.2.1, ha])
    rw [ha]
    exact ⟨fun h => huv.isAwaiting_false (hchanged h), fun h => huv.live_false (hremoved h)⟩

/-- After an application no record awaits at a Changed address, and none is live at a Removed one. -/
theorem State.applyRoster_left {new : Roster} {s : State} {v : Txn}
    (hv : v ∈ (s.applyRoster new).requests.records) :
    (addressClass s.roster.committed new v.address = .changed → v.isAwaiting = false) ∧
    (addressClass s.roster.committed new v.address = .removed → v.live = false) := by
  by_cases hk : addressClass s.roster.committed new v.address = .kept
  · simp [hk]
  · exact State.applyAddresses_left hv (mem_unionAddresses_of_class hk)

/-- The records after an application, where no two have one id (R20, R21). -/
theorem State.applyRoster_records {s : State} (h : (s.requests.records.map (·.id)).Nodup)
    (new : Roster) : (s.applyRoster new).requests.records = s.requests.records.map
      (·.afterApplication (addressClass s.roster.committed new) s.sweep.number) := by
  have key := foldl_map_at
    (f := fun t a => State.applyAddress s.roster.committed new a t)
    (fun t : State => (t.requests.records.map (·.id)).Nodup ∧ t.sweep.number = s.sweep.number)
    (·.requests.records) Txn.address
    (·.afterApplication (addressClass s.roster.committed new) s.sweep.number)
    (fun u => by unfold Txn.afterApplication; split; · rfl
                 · split <;> rfl)
    (fun u => by
      unfold Txn.afterApplication
      split
      · simp [Txn.endedBy]
      · split <;> simp_all [Txn.endedBy])
    (fun t a ⟨hid, hn⟩ => ⟨by rwa [(t.applyAddress_settles _ new a).ids], by simpa using hn⟩)
    (fun t a ⟨hid, hn⟩ => by simpa only [hn] using t.applyAddress_records _ new a hid)
    (unionAddresses s.roster.committed new)
    (s := s.rebuild s.roster.committed new) ⟨h, rfl⟩
  refine Eq.trans key (List.map_congr_left fun u _ => ?_)
  split
  · rfl
  · next hu =>
    simp [Txn.afterApplication, addressClass_kept_of_not_mem hu]

/-- The fault entries after an application (R20, R21). -/
theorem State.applyRoster_entries (s : State) (new : Roster) :
    (s.applyRoster new).faults.entries =
      s.faults.entries.map (·.afterApplication (addressClass s.roster.committed new)) := by
  have key := foldl_map_at
    (f := fun t a => State.applyAddress s.roster.committed new a t) (fun _ => True)
    (·.faults.entries) FaultEntry.address
    (·.afterApplication (addressClass s.roster.committed new))
    (fun e => by unfold FaultEntry.afterApplication; split <;> rfl)
    (fun e => by unfold FaultEntry.afterApplication; split <;> simp_all)
    (fun _ _ _ => trivial) (fun t a _ => t.applyAddress_entries _ new a)
    (unionAddresses s.roster.committed new)
    (s := s.rebuild s.roster.committed new) trivial
  refine Eq.trans key (List.map_congr_left fun e _ => ?_)
  split
  · rfl
  · next he =>
    simp [FaultEntry.afterApplication, addressClass_kept_of_not_mem he]

/-- FLT follows the list through an application (R142). -/
theorem State.applyRoster_flt {s : State} (h : s.faults.flt = anyActive s.faults.entries)
    (new : Roster) :
    (s.applyRoster new).faults.flt = anyActive (s.applyRoster new).faults.entries :=
  foldl_induct (P := fun t : State => t.faults.flt = anyActive t.faults.entries)
    (fun _ a h => State.applyAddress_flt _ _ h a) _ h

/-- The notices of an application between legal rosters, where no two records have one id (R20 to R23). -/
theorem State.applyRoster_notices {s : State} {new : Roster}
    (h : (s.requests.records.map (·.id)).Nodup) (ho : s.roster.committed.Legal) (hn : new.Legal) :
    (s.applyRoster new).notices =
      (s.applicationNotices new).foldl (fun q n => q.take n) s.notices := by
  have hfresh (a : Nat) (ha : addressClass s.roster.committed new a ≠ .kept) (e : RosterEntry)
      (he : new.entry? a = some e) :
      (s.rebuild s.roster.committed new).station? a = some e.freshStation := by
    rw [← Option.map_some, ← he]
    exact (rebuilt_of_not_kept ha s.stations []).1
  have hfold := State.applyAddresses_notices (ho.unionAddresses_ascending new).nodup
    (s := s.rebuild s.roster.committed new) h hfresh
  rw [State.applicationNotices_eq, List.foldl_append, ← unionAddresses_eq ho hn]
  exact congrArg (NoticeQueue.take (commitNotice s.roster.committed new _)) hfold

/-- Applying a roster is what the claims say it is (R18 to R23). -/
theorem State.applied_applyRoster {s : State} (hs : s.RecordsMatchRoster)
    (hl : s.LiveRecordsRostered) (new : Roster) : s.Applied new (s.applyRoster new) := by
  have hfresh (a : Nat) (ha : addressClass s.roster.committed new a ≠ .kept) :=
    rebuilt_of_not_kept ha s.stations s.image.images
  refine ⟨State.applyRoster_roster .., fun a ha => ?_, fun a e ha he => ?_, fun a ha => ?_,
    State.applyRoster_marks .., fun h => State.applyRoster_records h new, fun v hv hawait => ?_,
    State.applyRoster_nextId .., State.applyRoster_orphans .., State.applyRoster_entries ..,
    State.applyRoster_overflow .., State.applyRoster_capture .., fun h => ?_,
    State.applyRoster_notices, State.applyRoster_sweep .., State.applyRoster_engine ..,
    State.applyRoster_survey .., ?_, ?_, ?_, State.applyRoster_now .., State.applyRoster_pending ..⟩
  · rw [State.station?, State.image?, State.applyRoster_stations, State.applyRoster_image]
    exact rebuilt_of_kept hs ha
  · have hk : addressClass s.roster.committed new a ≠ .kept := by
      rintro hk; rcases ha with ha | ha <;> rw [hk] at ha <;> cases ha
    rw [State.station?, State.image?, State.applyRoster_stations, State.applyRoster_image,
      (hfresh a hk).1, (hfresh a hk).2, he]
    exact ⟨rfl, rfl⟩
  · rw [State.station?, State.image?, State.applyRoster_stations, State.applyRoster_image,
      (hfresh a (by simp [ha])).1, (hfresh a (by simp [ha])).2, (addressClass_removed.mp ha).2]
    exact ⟨rfl, rfl⟩
  · obtain ⟨hchanged, hremoved⟩ := State.applyRoster_left hv
    obtain ⟨u, hu, hsettle⟩ := (s.applyRoster_settles new).mem hv
    have hlive : v.live = true := Txn.live_iff.mpr (.inr hawait)
    have hrostered := hl u hu (.inr (by rw [← hsettle.state_eq hlive, hawait]))
    rw [← hsettle.2.1] at hrostered
    cases hc : addressClass s.roster.committed new v.address with
    | kept => rfl
    | changed => simp [Txn.isAwaiting, hawait] at hchanged; exact absurd hc hchanged
    | new =>
      have hnone := (addressClass_new hc).1
      rw [State.entry?, hnone] at hrostered
      cases hrostered
    | removed => rw [hremoved hc] at hlive; cases hlive
  · rw [← State.applyRoster_entries]
    exact State.applyRoster_flt h new
  all_goals rw [State.applyRoster_image]

end Sys2Proof.Machine
end

section
/-! SUPPORT. Proofs: the moves of the part. Every operation of the model changes rosters, record standings,
image addresses, transactions and the exchange in flight by a chain of the moves listed in `Move`. An
invariant of these is then proved once for each move, and `step_moves` carries it to every step. -/

namespace Sys2Proof.Machine

/-! ## The moves -/

/-- What R28 speaks of in a record, beside its entry. -/
def Station.standing (t : Station) : Nat × StationState × Nat := (t.address, t.state, t.miss)

/-- Rosters, standings, image addresses and next id are the same, the records have at most ended and the
exchange in flight is at most let go. Nothing is said of what else changes. -/
structure State.Eases (s t : State) : Prop where
  roster : t.roster = s.roster
  stations : t.stations.map Station.standing = s.stations.map Station.standing
  images : t.image.images.map (·.address) = s.image.images.map (·.address)
  records : Settles s.requests.records t.requests.records
  nextId : t.requests.nextId = s.requests.nextId
  exchange : t.engine.exchange = s.engine.exchange ∨ t.engine.exchange = none

/-- A REQ to this address may be sent: it awaits nothing, and fewer than 4 records await (R125). -/
def State.RoomFor (s : State) (a : Nat) : Prop :=
  (s.requests.records.filter (·.isAwaiting)).length < 4 ∧
  a ∉ (s.requests.records.filter (·.isAwaiting)).map (·.address)

/-- A REQ is chosen where there is room for it, or repeats the one in flight (R85, R125). -/
def State.MaySend (s : State) (x : Exchange) : Prop :=
  x.chooser = .acyclic → x.kind = .req → s.RoomFor x.address ∨
    ∃ y, s.engine.exchange = some y ∧ y.chooser = .acyclic ∧ y.kind = .req ∧ y.address = x.address

/-- One change that an operation of the part makes, under the condition the operation makes it. -/
inductive Move (s : State) : State → Prop where
  /-- Nothing that the laws of records and transactions forbid. -/
  | eased {t : State} (h : s.Eases t) : Move s t
  /-- The staged roster is changed, legal from legal rosters (R7 to R11). -/
  | staged (r : Roster) (h : s.roster.staged.Legal → s.roster.committed.Legal → r.Legal) :
      Move s (s.onStaged fun _ => r)
  /-- COMMIT in SWEEPING (R16). -/
  | deferred (h : s.roster.staged.fits = true) :
      Move s (s.onRoster fun m => { m with pendingCopy := some m.staged })
  /-- COMMIT elsewhere (R15). -/
  | committed (h : s.roster.staged.fits = true) : Move s (s.applyRoster s.roster.staged)
  /-- The pending copy is applied (R17). -/
  | copied {r : Roster} (h : s.roster.pendingCopy = some r) :
      Move s ((s.onRoster fun m => { m with pendingCopy := none }).applyRoster r)
  /-- The record of an address changes, keeping the law of R28. -/
  | station (a : Nat) (f : Station → Station) (hf : ∀ r, (f r).address = r.address)
      (h : ∀ r e, s.station? a = some r → s.entry? a = some e → 1 ≤ e.missLimit →
        r.MissLaw e.missLimit → (f r).MissLaw e.missLimit) : Move s (s.onStation a f)
  /-- SUBMIT passes its checks (R117). -/
  | submitted (a : SubmitArg) (h : (s.entry? a.address).isSome = true)
      (hroom : s.requests.records.length < Config.maxRecords) : Move s (s.accept a)
  /-- A record is removed (R121, R122). -/
  | dropped (id : Nat) : Move s (s.dropTxn id)
  /-- The REQ in flight is answered ACCEPTED (R128). -/
  | answered (x : Exchange) (t : Txn) (hx : s.engine.exchange = some x)
      (hc : x.chooser = .acyclic) (hk : x.kind = .req) (ht : t ∈ s.requests.records)
      (hq : t.isQueued = true) (ha : t.address = x.address) :
      Move s (s.dropExchange.onTxn t.id fun u => { u with state := .awaiting })
  /-- An exchange is handed to the engine, or repeated (R80, R85). -/
  | handed (x : Exchange) (h : s.MaySend x) :
      Move s (s.onEngine fun e => { e with exchange := some x })
  /-- A reset (R182, R183). -/
  | reset (baud : Baud) (cause : ResetCause) : Move s (s.afterReset baud cause)

/-- A chain of moves. -/
inductive Moves : State → State → Prop where
  | refl (s : State) : Moves s s
  | tail {s t u : State} : Moves s t → Move t u → Moves s u

theorem Move.moves {s t : State} (h : Move s t) : Moves s t := .tail (.refl s) h

theorem Moves.trans {s t u : State} (h : Moves s t) (h' : Moves t u) : Moves s u := by
  induction h' with
  | refl => exact h
  | tail _ hmove ih => exact .tail ih hmove

/-- What every move keeps, a chain of moves keeps. -/
theorem Moves.keeps {P : State → Prop} (h : ∀ s t, Move s t → P s → P t) {s t : State}
    (hm : Moves s t) (hs : P s) : P t := by
  induction hm with
  | refl => exact hs
  | tail _ hmove ih => exact h _ _ hmove ih

theorem Moves.eased {s t : State} (h : s.Eases t) : Moves s t := (Move.eased h).moves

/-- What leaves roster, records, images, transactions and exchange as they are is a move. -/
theorem Moves.quiet {s t : State} (hr : t.roster = s.roster) (hs : t.stations = s.stations)
    (hi : t.image = s.image) (hq : t.requests = s.requests) (hx : t.engine.exchange = s.engine.exchange) :
    Moves s t :=
  .eased ⟨hr, by rw [hs], by rw [hi], hq ▸ .refl _, by rw [hq], .inl hx⟩

/-! ## One block at a time -/

section
variable (s : State)

theorem moves_onSweep (f : SweepController → SweepController) : Moves s (s.onSweep f) :=
  .quiet rfl rfl rfl rfl rfl
theorem moves_onFaults (f : FaultList → FaultList) : Moves s (s.onFaults f) :=
  .quiet rfl rfl rfl rfl rfl
theorem moves_onSurvey (f : SurveyUnit → SurveyUnit) : Moves s (s.onSurvey f) :=
  .quiet rfl rfl rfl rfl rfl
theorem moves_onNotices (f : NoticeQueue → NoticeQueue) : Moves s (s.onNotices f) :=
  .quiet rfl rfl rfl rfl rfl
theorem moves_onHost (f : HostPort → HostPort) : Moves s (s.onHost f) :=
  .quiet rfl rfl rfl rfl rfl
theorem moves_at (due : Nat) : Moves s (s.at due) := .quiet rfl rfl rfl rfl rfl

/-- The Link Engine changes without its exchange. -/
theorem moves_onEngine {f : LinkEngine → LinkEngine} (h : (f s.engine).exchange = s.engine.exchange) :
    Moves s (s.onEngine f) :=
  .quiet rfl rfl rfl rfl h

/-- The Image Store changes without an image coming or going. -/
theorem moves_onImage {f : ImageStore → ImageStore}
    (h : (f s.image).images.map (·.address) = s.image.images.map (·.address)) :
    Moves s (s.onImage f) :=
  .eased ⟨rfl, rfl, h, .refl _, rfl, .inl rfl⟩

/-- Every image changes under its address. -/
theorem moves_mapImages {f : Image → Image} (hf : ∀ i, (f i).address = i.address) :
    Moves s (s.onImage fun m => { m with images := m.images.map f }) :=
  moves_onImage s (by simp [List.map_map, Function.comp_def, hf])

theorem moves_onImageOf {f : Image → Image} (hf : ∀ i, (f i).address = i.address) (a : Nat) :
    Moves s (s.onImageOf a f) :=
  moves_mapImages s fun i => by split <;> simp [hf]

/-- The Request Queue changes without its records and next id. -/
theorem moves_onRequests {f : RequestQueue → RequestQueue}
    (h : (f s.requests).records = s.requests.records) (hn : (f s.requests).nextId = s.requests.nextId) :
    Moves s (s.onRequests f) :=
  .eased ⟨rfl, rfl, rfl, (show (s.onRequests f).requests.records = _ from h) ▸ .refl _, hn, .inl rfl⟩

/-- The records change without a standing. -/
theorem moves_onStations {f : List Station → List Station}
    (h : (f s.stations).map Station.standing = s.stations.map Station.standing) :
    Moves s (s.onStations f) :=
  .eased ⟨rfl, h, rfl, .refl _, rfl, .inl rfl⟩

/-- A record changes in its counters, toggle or flags. -/
theorem moves_onStation {f : Station → Station} (hf : ∀ r, (f r).standing = r.standing) (a : Nat) :
    Moves s (s.onStation a f) :=
  moves_onStations s (by
    rw [List.map_map]
    refine List.map_congr_left fun r _ => ?_
    dsimp only [Function.comp]
    split
    · exact hf r
    · rfl)

end

/-- A miss count of 0 in a state that is neither LOST nor PARKED obeys R28. -/
theorem Station.missLaw_zero {t : Station} {limit : Nat} (hl : 1 ≤ limit) (hm : t.miss = 0)
    (hs : t.state ≠ .lost ∧ t.state ≠ .parked) : t.MissLaw limit :=
  ⟨by omega, by simp only [hs, or_self, iff_false]; omega⟩

/-- A record starts again at a miss count of 0. -/
theorem moves_onStation_zero (s : State) {f : Station → Station} (a : Nat)
    (ha : ∀ r, (f r).address = r.address) (hm : ∀ r, (f r).miss = 0)
    (hs : ∀ r, (f r).state ≠ .lost ∧ (f r).state ≠ .parked) : Moves s (s.onStation a f) :=
  (Move.station a f ha fun r _ _ _ hl _ => Station.missLaw_zero hl (hm r) (hs r)).moves

/-! ## Raises, and the operations the blocks share -/

section
variable (s : State)

theorem moves_raiseNotice (n : Notice) : Moves s (s.raiseNotice n) := moves_onNotices s _
theorem moves_raiseFault (r : FaultRaise) : Moves s (s.raiseFault r) := .quiet rfl rfl rfl rfl rfl
theorem moves_raiseLineFault (c : FaultCode) (active : Bool) :
    Moves s (s.raiseLineFault c active) := moves_raiseFault s _
theorem moves_markInactive (a : Nat) (c : FaultCode) : Moves s (s.markInactive a c) :=
  moves_onFaults s _
theorem moves_markStation (a : Nat) : Moves s (s.markStation a) := .quiet rfl rfl rfl rfl rfl
theorem moves_setLine (l : LineState) : Moves s (s.setLine l) := .quiet rfl rfl rfl rfl rfl
theorem moves_close (c : Closing) : Moves s (s.close c) := moves_onSweep s _
theorem moves_countLine (f : LineCounters → LineCounters) : Moves s (s.countLine f) :=
  moves_onEngine s rfl
theorem moves_startGuard (endedAt : Nat) : Moves s (s.startGuard endedAt) := moves_onEngine s rfl
theorem moves_beginAttempt (x : Exchange) : Moves s (s.beginAttempt x) := moves_onEngine s rfl
theorem moves_openWindow (a : Attempt) : Moves s (s.openWindow a) := moves_onEngine s rfl
theorem moves_goReady : Moves s s.goReady := .quiet rfl rfl rfl rfl rfl
theorem moves_finishSurvey (st : SurveyStatus) : Moves s (s.finishSurvey st) :=
  .quiet rfl rfl rfl rfl rfl
theorem moves_clearMark (a : Nat) : Moves s (s.clearMark a) := moves_onRequests s rfl rfl
theorem moves_setMark (a : Nat) (on : Bool) : Moves s (s.setMark a on) := moves_onRequests s rfl rfl
theorem moves_orphan : Moves s s.orphan := moves_onRequests s rfl rfl

theorem moves_announce (a : Nat) (before : Option StationState) : Moves s (s.announce a before) :=
  .quiet (by simp) (by simp) (by simp) (by simp) (by simp)

theorem moves_pump : Moves s s.pump := .quiet (by simp) (by simp) (by simp) (by simp) (by simp)

theorem moves_dropExchange : Moves s s.dropExchange :=
  .eased ⟨rfl, rfl, rfl, .refl _, rfl, .inr rfl⟩

theorem moves_abandon : Moves s s.abandon := .eased ⟨rfl, rfl, rfl, .refl _, rfl, .inr rfl⟩

/-- A change of one record that at most ends it. -/
theorem moves_onTxn {f : Txn → Txn} (hf : ∀ u : Txn, u.Settles (f u)) (id : Nat) :
    Moves s (s.onTxn id f) :=
  .eased ⟨rfl, rfl, rfl, Settles.map (fun u => by
    split
    · exact hf u
    · exact .refl u) _, rfl, .inl rfl⟩

theorem moves_endTxn (t : Txn) (c : ResultCode) (detail : Option Nat) (data : Option (List Byte)) :
    Moves s (s.endTxn t c detail data) :=
  .eased ⟨rfl, rfl, rfl, Settles.map (fun u => by
    split
    · exact ⟨rfl, rfl, .inr rfl⟩
    · exact .refl u) _, rfl, .inl rfl⟩

theorem moves_endTxns (p : Txn → Bool) (c : ResultCode) : Moves s (s.endTxns p c) :=
  .eased ⟨by simp, by simp, by simp, s.endTxns_settles p c, by simp, .inl (by simp)⟩

theorem moves_depart (a : Nat) : Moves s (s.depart a) :=
  (moves_endTxns s _ _).trans (moves_clearMark _ _)

theorem moves_departFrom (before : StationState) (a : Nat) : Moves s (s.departFrom before a) := by
  unfold State.departFrom
  split
  · exact moves_depart s a
  · exact .refl s

theorem moves_lineDown : Moves s s.lineDown := moves_endTxns s _ _

theorem moves_applyPending : Moves s s.applyPending := by
  unfold State.applyPending
  split
  · exact .refl s
  · exact (Move.copied (by assumption)).moves

theorem moves_hand {s : State} {x : Exchange} (h : s.MaySend x) : Moves s (s.hand x) := by
  have hheld := (Move.handed x h).moves
  unfold State.hand
  dsimp only
  split
  · exact hheld.trans (moves_beginAttempt _ x)
  · exact hheld

/-- An exchange of another chooser or kind than a REQ may always be sent. -/
theorem State.maySend_of_ne (s : State) {x : Exchange} (h : x.chooser ≠ .acyclic ∨ x.kind ≠ .req) :
    s.MaySend x :=
  fun hc hk => (h.elim (· hc) (· hk)).elim

theorem moves_handSafe : Moves s s.handSafe := moves_hand (s.maySend_of_ne (.inl nofun))

theorem moves_handIdent {c : Chooser} (a limit : Nat) : Moves s (s.hand (identExchange c a limit)) :=
  moves_hand (s.maySend_of_ne (.inr nofun))

/-! ## The phases of a sweep (R60 to R65) -/

theorem moves_latch : Moves s s.latch :=
  (moves_onSweep s _).trans (moves_mapImages _ fun _ => rfl)

theorem moves_publish (cut : Bool) : Moves s (s.publish cut) :=
  moves_onImage s (by
    dsimp only
    rw [List.map_map]
    refine List.map_congr_left fun i _ => ?_
    dsimp only [Function.comp]
    unfold Image.publish
    (repeat' split) <;> rfl)

theorem moves_handCyclic (e : RosterEntry) : Moves s (s.handCyclic e) := by
  have hreached := moves_onSweep s fun c => { c with cursor := e.address }
  unfold State.handCyclic
  dsimp only
  split
  · refine (hreached.trans (moves_onStation _ (f := fun r => { r with toggle := !r.toggle })
      (fun _ => rfl) e.address)).trans (moves_hand ?_)
    exact State.maySend_of_ne _ (.inl nofun)
  · exact hreached.trans (moves_handIdent _ _ _)

/-- The Request Queue chooses a REQ only where there is room for it (R125). -/
theorem State.reqChoice_room {s : State} {x : Exchange} (h : s.reqChoice = some x) :
    s.RoomFor x.address := by
  unfold State.reqChoice at h
  split at h
  · next hroom =>
    obtain ⟨t, ht, rfl⟩ := Option.map_eq_some_iff.mp h
    refine ⟨hroom, fun hmem => ?_⟩
    obtain ⟨u, hu, hua⟩ := List.mem_map.mp hmem
    obtain ⟨hu, hawait⟩ := List.mem_filter.mp hu
    have hnone : s.hasAwaiting t.address = false := by
      have hchosen := List.find?_some ht
      simp only [Bool.and_eq_true, Bool.not_eq_true'] at hchosen
      obtain ⟨⟨-, hnone⟩, -⟩ := hchosen
      exact hnone
    have hyes : s.hasAwaiting t.address = true :=
      List.any_eq_true.mpr ⟨u, hu, by simpa [hawait, reqExchange] using hua⟩
    rw [hnone] at hyes
    cases hyes
  · cases h

/-- What the Request Queue chooses for a slot may be sent (R125). -/
theorem State.slotChoice_maySend {s : State} {x : Exchange} (h : s.slotChoice = some x) :
    s.MaySend x := by
  unfold State.slotChoice at h
  rcases Option.or_eq_some_iff.mp h with hf | ⟨-, h⟩
  · obtain ⟨t, -, rfl⟩ := Option.map_eq_some_iff.mp hf
    exact s.maySend_of_ne (.inr nofun)
  rcases Option.or_eq_some_iff.mp h with hd | ⟨-, hr⟩
  · obtain ⟨a, -, rfl⟩ := Option.map_eq_some_iff.mp hd
    exact s.maySend_of_ne (.inr nofun)
  · exact fun _ _ => .inl (State.reqChoice_room hr)

theorem moves_probePhase : Moves s s.probePhase := by
  rcases s.probePhase_cases with ⟨a, h⟩ | h <;> rw [h]
  · exact (moves_onSweep s _).trans (moves_handIdent _ _ _)
  · exact moves_onSweep s _

theorem moves_acyclicPhase : Moves s s.acyclicPhase := by
  rcases s.acyclicPhase_cases with ⟨x, hx, h⟩ | h <;> rw [h]
  · exact (moves_onSweep s _).trans (moves_hand (State.slotChoice_maySend hx))
  · exact moves_probePhase s

theorem moves_cyclicPhase : Moves s s.cyclicPhase := by
  rcases s.cyclicPhase_cases with ⟨e, -, h⟩ | ⟨-, h⟩ <;> rw [h]
  · exact moves_handCyclic s e
  · exact (moves_onSweep s _).trans (moves_acyclicPhase _)

theorem moves_nextSweep : Moves s s.nextSweep := (moves_latch s).trans (moves_cyclicPhase _)

theorem moves_overrun : Moves s s.overrun :=
  ((moves_onSweep s _).trans (moves_raiseLineFault _ _ _)).trans (moves_onSweep _ _)

theorem moves_successor : Moves s s.successor := by
  unfold State.successor
  split
  · exact moves_nextSweep s
  · split
    · exact moves_onSweep s _
    · split
      · exact moves_nextSweep s
      · exact (moves_overrun s).trans (moves_nextSweep _)

theorem moves_planDecision : Moves s s.planDecision := by
  have hcounted := moves_onSweep s (·.countDown)
  have hgoOn (t : State) : Moves t (if t.sweep.stop || t.rosterEmpty then t.goReady else t.successor) := by
    split
    · exact moves_goReady t
    · exact moves_successor t
  unfold State.planDecision
  dsimp only
  split
  · split
    · exact (hcounted.trans (moves_raiseNotice _ _)).trans (moves_goReady _)
    · exact hcounted.trans (hgoOn _)
  · exact hcounted.trans (hgoOn _)
  · exact hcounted.trans (hgoOn _)

theorem moves_endPhase : Moves s s.endPhase :=
  (((moves_publish s _).trans (moves_onSweep _ _)).trans (moves_applyPending _)).trans
    (moves_planDecision _)

theorem moves_finish : Moves s s.finish := by
  unfold State.finish
  split
  · exact moves_endPhase s
  · exact .refl s

theorem moves_runCyclic : Moves s s.runCyclic := (moves_cyclicPhase s).trans (moves_finish _)

theorem moves_runAcyclic : Moves s s.runAcyclic := (moves_acyclicPhase s).trans (moves_finish _)

theorem moves_beginSweep : Moves s s.beginSweep := (moves_latch s).trans (moves_runCyclic _)

theorem moves_beginUnlessEmpty : Moves s s.beginUnlessEmpty := by
  unfold State.beginUnlessEmpty
  split
  · exact moves_goReady s
  · exact moves_beginSweep s

/-! ## Cuts, closings and the line (R49 to R53, R69 to R71) -/

theorem moves_enterOff : Moves s s.enterOff := by
  have hoff := (((moves_lineDown s).trans (moves_abandon _)).trans (moves_onSweep _ (·.settle))).trans
    (moves_setLine _ .off)
  unfold State.enterOff
  dsimp only
  split
  · exact hoff.trans (moves_markInactive _ _ _)
  · exact hoff

theorem moves_enterPolicyHalt : Moves s s.enterPolicyHalt :=
  (((moves_lineDown s).trans (moves_abandon _)).trans (moves_onSweep _ _)).trans (moves_setLine _ _)

theorem moves_cutSweep : Moves s s.cutSweep :=
  ((moves_publish s _).trans (moves_onSweep _ _)).trans (moves_applyPending _)

theorem moves_policyHalt : Moves s s.policyHalt :=
  ((moves_cutSweep s).trans (moves_close _ _)).trans (moves_handSafe _)

theorem moves_boundaryReached : Moves s s.boundaryReached := by
  unfold State.boundaryReached
  split
  · exact (moves_finishSurvey s _).trans (moves_handSafe _)
  · split
    · exact (moves_cutSweep s).trans (moves_handSafe _)
    · exact (moves_cutSweep s).trans (moves_beginUnlessEmpty _)

theorem moves_takeCut : Moves s s.takeCut := by
  unfold State.takeCut
  split
  · exact .refl s
  · exact (moves_dropExchange s).trans (moves_boundaryReached _)

theorem moves_cutForContention : Moves s s.cutForContention := by
  have hswept : Moves s (if s.sweep.line = .sweeping then
      if s.sweep.phase.running then s.cutSweep else s.applyPending else s) := by
    split
    · split
      · exact moves_cutSweep s
      · exact moves_applyPending s
    · exact .refl s
  unfold State.cutForContention
  dsimp only
  split
  · exact hswept.trans (moves_finishSurvey _ _)
  · exact hswept

theorem moves_contention : Moves s s.contention :=
  (((((moves_abandon s).trans (moves_cutForContention _)).trans (moves_onSweep _ _)).trans
    (moves_lineDown _)).trans (moves_raiseLineFault _ _ _)).trans (moves_setLine _ _)

theorem moves_surveyNext (a : Nat) : Moves s (s.surveyNext a) := by
  unfold State.surveyNext
  split
  · exact (moves_onSurvey s _).trans (moves_handIdent _ _ _)
  · exact (moves_finishSurvey s _).trans (moves_setLine _ _)

end

end Sys2Proof.Machine
end

section
/-! SUPPORT. Proofs: the moves of judged attempts and of the field line (chapters 2, 4 and 6). -/

namespace Sys2Proof.Machine

section
variable (s : State)

/-! ## Cyclic and probe outcomes (R28 to R37) -/

theorem moves_reportAttempt (x : Exchange) (r : Option FailureKind) :
    Moves s (s.reportAttempt x r) := by
  unfold State.reportAttempt
  split
  · exact moves_onStation s (fun _ => by rfl) _
  · exact .refl s

/-- A failure below LOST and PARKED keeps R28: the state is one of the two exactly at the limit. -/
theorem Station.fail_missLaw {t : Station} {limit : Nat} (p : RejoinPolicy)
    (hs : t.state ≠ .lost ∧ t.state ≠ .parked) (h : t.MissLaw limit) :
    (t.fail limit p).MissLaw limit := by
  obtain ⟨hle, hiff⟩ := h
  have hlt : t.miss < limit := by
    refine Nat.lt_of_le_of_ne hle fun he => ?_
    exact (hiff.mp he).elim hs.1 hs.2
  by_cases hlimit : limit ≤ t.miss + 1
  · refine ⟨hlt, iff_of_true (show t.miss + 1 = limit by omega) ?_⟩
    cases p <;> simp [Station.fail, StationState.afterFailure, hlimit]
  · refine ⟨hlt, iff_of_false (show t.miss + 1 ≠ limit by omega) ?_⟩
    cases hst : t.state <;> simp_all [Station.fail, StationState.afterFailure, Nat.not_le.mpr]

/-- A cyclic failure of a station in its record's state (R28, R29). -/
theorem moves_applyFailure {s : State} {e : RosterEntry} {t : Station} (ht : s.station? t.address = some t)
    (he : s.entry? t.address = some e) (hs : t.state ≠ .lost ∧ t.state ≠ .parked) (k : FailureKind) :
    Moves s (s.applyFailure e t k) := by
  have hfail : Moves s (s.onStation t.address (·.fail e.missLimit s.roster.committed.header.policy)) := by
    refine (Move.station _ _ (fun _ => by rfl) fun r e' hr he' _ hlaw => ?_).moves
    obtain rfl : r = t := Option.some.inj (hr.symm.trans ht)
    obtain rfl : e' = e := Option.some.inj (he'.symm.trans he)
    exact Station.fail_missLaw _ hs hlaw
  unfold State.applyFailure
  dsimp only
  split
  · exact ((hfail.trans (moves_departFrom _ _ _)).trans (moves_raiseFault _ _)).trans
      (moves_announce _ _ _)
  · exact hfail.trans (moves_announce _ _ _)

/-- The record an outcome is applied to is the one of the exchange's address, in a state that takes it. -/
theorem State.taker_some {s : State} {x : Exchange} {t : Station} (h : s.taker x = some t) :
    s.station? x.address = some t ∧ t.address = x.address ∧ t.state.takes x = true := by
  obtain ⟨hst, htakes⟩ := Option.filter_eq_some_iff.mp h
  exact ⟨hst, (State.station?_some hst).2, htakes⟩

theorem moves_cyclicFailure {s : State} {x : Exchange} (hx : x.chooser = .cyclic) (k : FailureKind) :
    Moves s (s.cyclicFailure x k) := by
  unfold State.cyclicFailure
  split
  · next t e ht he =>
    obtain ⟨hst, ha, htakes⟩ := State.taker_some ht
    refine moves_applyFailure (ha ▸ hst) (ha ▸ he) ?_ k
    constructor <;> rintro hlost <;> rw [hlost] at htakes <;>
      cases hk : x.kind <;> simp [StationState.takes, StationState.polled, hx, hk] at htakes
  · exact .refl s

theorem moves_alarmEdge (a : Nat) (seen : StationState) (old new : Bool) :
    Moves s (s.alarmEdge a seen old new) := by
  unfold State.alarmEdge
  split
  · exact moves_raiseFault s _
  · split
    · exact moves_markInactive s _ _
    · exact .refl s

theorem moves_acceptData (t : Station) (flags : StatusFlags) (inputs : List Byte) :
    Moves s (s.acceptData t flags inputs) := by
  have htaken : Moves s ((s.onImageOf t.address (·.deliver inputs)).onStation t.address
      (·.accept flags.restarted)) := by
    refine (moves_onImageOf s (fun _ => by rfl) _).trans
      (moves_onStation_zero _ _ (fun _ => by rfl) (fun _ => by rfl) fun r => ?_)
    cases hr : flags.restarted <;> simp [Station.accept]
  unfold State.acceptData
  refine Moves.trans ?_ (moves_announce _ _ _)
  refine Moves.trans ?_ (moves_onStation _ (fun _ => by rfl) _)
  split
  · exact (((htaken.trans (moves_depart _ _)).trans (moves_alarmEdge _ _ _ _ _)).trans
      (moves_raiseFault _ _))
  · exact (htaken.trans (moves_setMark _ _ _)).trans (moves_alarmEdge _ _ _ _ _)

theorem moves_applyIdentity (e : RosterEntry) (t : Station) (i : Identity) :
    Moves s (s.applyIdentity e t i) := by
  unfold State.applyIdentity
  split
  · exact (moves_onStation_zero s _ (fun _ => by rfl) (fun _ => by rfl) fun _ => ⟨by nofun, by nofun⟩).trans
      (moves_announce _ _ _)
  · exact ((moves_onStation_zero s _ (fun _ => by rfl) (fun _ => by rfl) fun _ => ⟨by nofun, by nofun⟩).trans
      (moves_raiseFault _ _)).trans (moves_announce _ _ _)

theorem moves_stationSuccess (x : Exchange) (g : GoodReply) : Moves s (s.stationSuccess x g) := by
  unfold State.stationSuccess
  split
  · split
    · exact moves_acceptData s _ _ _
    · split
      · exact (moves_markInactive s _ _).trans (moves_applyIdentity _ _ _ _)
      · exact moves_applyIdentity s _ _ _
    all_goals exact .refl s
  · exact .refl s

theorem moves_probeFailure (x : Exchange) : Moves s (s.probeFailure x) := by
  unfold State.probeFailure
  split
  · exact moves_onStation s (fun _ => by rfl) _
  · exact .refl s

/-! ## Acyclic outcomes (R126 to R131) -/

theorem moves_countAttempt (x : Exchange) : Moves s (s.countAttempt x) :=
  moves_onTxn s (fun _ => ⟨by rfl, by rfl, .inl (by rfl)⟩) _

/-- A REQACK to the REQ in flight: only a record it was sent for starts to await (R128, R129). -/
theorem moves_reqack {s : State} {x : Exchange} (hx : s.engine.exchange = some x)
    (hc : x.chooser = .acyclic) (hk : x.kind = .req) (id : Nat) (o : ReqOutcome) (detail : Nat)
    (data : List Byte) : Moves s (s.dropExchange.reqack x.address id o detail data) := by
  have hdrop := moves_dropExchange s
  unfold State.reqack
  split
  · next t ht =>
    obtain ⟨hfind, hq⟩ := Option.filter_eq_some_iff.mp ht
    obtain ⟨hq, ha⟩ : t.isQueued = true ∧ t.address = x.address := by simpa using hq
    unfold State.reqackQueued
    split
    · split
      · exact (Move.answered x t hx hc hk (List.mem_of_find?_eq_some hfind) hq ha).moves
      · exact hdrop.trans (moves_endTxn _ _ _ _ _)
    · exact hdrop.trans (moves_endTxn _ _ _ _ _)
    · exact hdrop.trans (moves_endTxn _ _ _ _ _)
  · split
    · exact hdrop.trans (moves_orphan _)
    · exact hdrop

theorem moves_fetched (a id detail : Nat) (data : List Byte) : Moves s (s.fetched a id detail data) := by
  unfold State.fetched
  split
  · exact (moves_endTxn s _ _ _ _).trans (moves_clearMark _ _)
  · exact (moves_orphan s).trans (moves_clearMark _ _)

/-- A REQACK answers a REQ. -/
def GoodReply.Answers (g : GoodReply) (x : Exchange) : Prop :=
  ∀ o detail data, g = .reqack o detail data → x.kind = .req

theorem moves_acyclicSuccess {s : State} {x : Exchange} (hx : s.engine.exchange = some x)
    (hc : x.chooser = .acyclic) {g : GoodReply} (hg : g.Answers x) :
    Moves s (s.dropExchange.acyclicSuccess x g) := by
  have hcounted := (moves_dropExchange s).trans (moves_countAttempt _ x)
  unfold State.acyclicSuccess
  split
  · next o detail data =>
    exact (moves_countAttempt s x).trans
      (moves_reqack (s := s.countAttempt x) hx hc (hg o detail data rfl) x.txnId o detail data)
  · exact hcounted.trans (moves_fetched _ _ _ _ _)
  · exact hcounted.trans (moves_clearMark _ _)
  · exact hcounted
  · exact hcounted

theorem moves_acyclicFailure (x : Exchange) : Moves s (s.acyclicFailure x) :=
  (moves_countAttempt s x).trans (moves_onSweep _ _)

/-! ## Judged attempts (R83, R85, R89) -/

theorem moves_success {s : State} {x : Exchange} (hx : s.engine.exchange = some x) {g : GoodReply}
    (hg : g.Answers x) : Moves s (s.dropExchange.success x g) := by
  have hdrop := moves_dropExchange s
  unfold State.success
  split
  · exact hdrop.trans (moves_stationSuccess _ _ _)
  · exact hdrop.trans (moves_stationSuccess _ _ _)
  · exact moves_acyclicSuccess hx (by assumption) hg
  · split
    · exact hdrop.trans (moves_onSurvey _ _)
    all_goals exact hdrop
  · exact hdrop

theorem moves_proceed (x : Exchange) : Moves s (s.proceed x) := by
  unfold State.proceed
  split
  · exact moves_runCyclic s
  · exact moves_runAcyclic s
  · exact moves_endPhase s
  · exact moves_surveyNext s _
  · exact .refl s

theorem moves_failure (x : Exchange) (k : FailureKind) : Moves s (s.failure x k) := by
  unfold State.failure
  split
  · next hc =>
    split
    · exact (moves_cyclicFailure hc k).trans (moves_policyHalt _)
    · exact (moves_cyclicFailure hc k).trans (moves_runCyclic _)
  · exact (moves_probeFailure s x).trans (moves_endPhase _)
  · exact (moves_acyclicFailure s x).trans (moves_runAcyclic _)
  · exact (moves_onSurvey s _).trans (moves_surveyNext _ _)
  · exact .refl s

theorem moves_goodAttempt {s : State} {x : Exchange} (hx : s.engine.exchange = some x)
    {g : GoodReply} (hg : g.Answers x) : Moves s (s.goodAttempt x g) := by
  have hhanded : Moves s ((s.reportAttempt x none).dropExchange.success x g) :=
    (moves_reportAttempt s x none).trans (moves_success (by simpa using hx) hg)
  unfold State.goodAttempt
  dsimp only
  split
  · exact hhanded.trans (moves_boundaryReached _)
  · exact hhanded.trans (moves_proceed _ _)

theorem moves_failedAttempt {s : State} {x : Exchange} (hx : s.engine.exchange = some x)
    (k : FailureKind) : Moves s (s.failedAttempt x k) := by
  have hreported := moves_reportAttempt s x (some k)
  unfold State.failedAttempt
  dsimp only
  split
  · exact (moves_dropExchange s).trans (moves_boundaryReached _)
  · split
    · refine hreported.trans (Move.handed _ fun hc hk => ?_).moves
      exact .inr ⟨x, by simpa using hx, hc, hk, rfl⟩
    · exact (hreported.trans (moves_dropExchange _)).trans (moves_failure _ _ _)

theorem moves_judged {s : State} {x : Exchange} (hx : s.engine.exchange = some x)
    {r : Except FailureKind GoodReply} (hr : ∀ g, r = .ok g → g.Answers x) (endedAt : Nat) :
    Moves s (s.judged x r endedAt) := by
  have hguard (k : Option FailureKind) :
      Moves s ((s.countLine (countResult k)).startGuard endedAt) ∧
      ((s.countLine (countResult k)).startGuard endedAt).engine.exchange = some x :=
    ⟨(moves_countLine s _).trans (moves_startGuard _ _), hx⟩
  unfold State.judged
  split
  · next g => exact (hguard none).1.trans (moves_goodAttempt (hguard none).2 (hr g rfl))
  · next k => exact (hguard (some k)).1.trans (moves_failedAttempt (hguard (some k)).2 k)

/-- Only a REQ is answered by a REQACK (R82). -/
theorem judgeReply_answers {x : Exchange} {w : Option Nat} {chars : List FieldChar} {g : GoodReply}
    (h : judgeReply x w chars = some g) : g.Answers x := by
  rintro o detail data rfl
  unfold judgeReply at h
  split at h
  · cases h
  · split at h
    · split at h
      · split at h
        · unfold judgeData at h
          split at h
          · split at h <;> cases h
          · cases h
        · cases h
      · split at h
        · unfold judgeIdreply at h
          split at h
          · split at h <;> cases h
          · cases h
        · cases h
      · assumption
      · unfold judgeFetch at h
        split at h
        · split at h
          · split at h <;> cases h
          · cases h
        · split at h <;> cases h
      · cases h
    · cases h

/-! ## Frames and characters (R77, R78, R81, R82, R91 to R93) -/

theorem moves_foreignFrame : Moves s s.foreignFrame := (moves_countLine s _).trans (moves_contention _)

theorem moves_collision : Moves s s.collision := (moves_countLine s _).trans (moves_contention _)

theorem moves_replyEnd {s : State} {x : Exchange} (hx : s.engine.exchange = some x)
    (chars : List FieldChar) (endedAt : Nat) : Moves s (s.replyEnd x chars endedAt) := by
  unfold State.replyEnd
  split
  · exact moves_foreignFrame s
  · split
    · next g hg =>
      exact moves_judged hx (fun g' hg' => by cases hg'; exact judgeReply_answers hg) _
    · exact moves_judged hx (fun _ h => by cases h) _

theorem moves_unawaitedEnd (chars : List FieldChar) (endedAt : Nat) :
    Moves s (s.unawaitedEnd chars endedAt) := by
  unfold State.unawaitedEnd
  split
  · exact moves_foreignFrame s
  · exact (moves_countLine s _).trans (moves_onEngine _ rfl)

theorem moves_frameEnd (chars : List FieldChar) (endedAt : Nat) :
    Moves s (s.frameEnd chars endedAt) := by
  unfold State.frameEnd
  split
  · exact moves_replyEnd (by assumption) _ _
  · exact moves_unawaitedEnd s _ _

theorem moves_restartQuiet : Moves s s.restartQuiet := by
  unfold State.restartQuiet
  split
  · exact moves_onSweep s _
  · exact .refl s

theorem moves_takeChar (chars : List FieldChar) : Moves s (s.takeChar chars) := by
  unfold State.takeChar
  split
  · exact moves_frameEnd s _ _
  · exact moves_onEngine s rfl

theorem moves_safeDone : Moves s s.safeDone := by
  have hsent := (moves_countLine s fun c => { c with sent := satInc c.sent }).trans (moves_abandon _)
  have hleft : Moves s (if s.sweep.line = .sweeping then
      (s.countLine fun c => { c with sent := satInc c.sent }).abandon.applyPending
      else (s.countLine fun c => { c with sent := satInc c.sent }).abandon) := by
    split
    · exact hsent.trans (moves_applyPending _)
    · exact hsent
  unfold State.safeDone
  dsimp only
  split
  · split
    · split
      · exact (hleft.trans (moves_enterPolicyHalt _)).trans (moves_enterOff _)
      · exact hleft.trans (moves_enterPolicyHalt _)
    · exact hleft.trans (moves_enterOff _)
  · exact hleft.trans (moves_enterOff _)

theorem moves_echo (x : Exchange) (a : Attempt) (c : FieldChar) : Moves s (s.echo x a c) := by
  have hheard := moves_at s (s.echoStop x a)
  rcases s.echo_cases x a c with h | h | h | h <;> rw [h]
  · exact hheard.trans (moves_onEngine _ rfl)
  · exact hheard.trans (moves_safeDone _)
  · exact hheard.trans (moves_openWindow _ _)
  · exact hheard.trans (moves_collision _)

theorem moves_heardChar (c : FieldChar) : Moves s (s.heardChar c) := by
  have hquiet := moves_restartQuiet s
  unfold State.heardChar
  dsimp only
  split
  · split
    · exact hquiet.trans (moves_takeChar _ _)
    · split
      · exact hquiet.trans (moves_onEngine _ rfl)
      · exact hquiet
  · exact .refl s

theorem moves_fieldChar (c : FieldChar) : Moves s (s.fieldChar c) := by
  unfold State.fieldChar
  split
  · split
    · exact moves_echo s _ _ _
    · exact .refl s
  · exact moves_heardChar s c

/-- A fold of operations that each move. -/
theorem moves_foldl {β : Type} {f : State → β → State} (h : ∀ s b, Moves s (f s b)) (l : List β) :
    Moves s (l.foldl f s) :=
  foldl_induct (P := Moves s) (fun t b ht => ht.trans (h t b)) l (.refl s)

theorem moves_takeRest (st : EngineState → Bool) (rest : List FieldChar) :
    Moves s (s.takeRest st rest) :=
  moves_foldl s (fun t c => by
    split
    · exact moves_fieldChar t c
    · exact .refl t) rest

theorem moves_endTaken (st : EngineState → Bool) : Moves s (s.endTaken st) := by
  unfold State.endTaken
  split
  · split
    · exact moves_frameEnd s _ _
    · exact .refl s
  · exact .refl s

theorem moves_guardDone : Moves s s.guardDone := by
  have hidle := moves_onEngine s (f := fun e => { e with state := .idle }) rfl
  unfold State.guardDone
  dsimp only
  split
  · split
    · exact hidle.trans (moves_beginAttempt _ _)
    · exact hidle
  · exact hidle

end

end Sys2Proof.Machine
end

section
/-! SUPPORT. Proofs: the checks of staging (R3, R7, R9) and the laws of rosters through them (R1 to R4). -/

namespace Sys2Proof.Machine

/-! ## The entry of STAGE_PUT (R3, R7) -/

theorem validAddress_iff {a : Nat} : validAddress a = true ↔ IsStation a := by
  simp [validAddress, IsStation]

theorem entryInRange_iff {a : EntryArg} : entryInRange a = true ↔
    IsStation a.address ∧ a.classCode ≤ 65535 ∧ a.inWidth ≤ 16 ∧ a.outWidth ≤ 16 ∧
    a.divisor ∈ [1, 2, 4, 8] ∧ a.missLimit ≤ 15 ∧ a.spare = 0 ∧ ∀ l ∈ a.label, l.length ≤ 8 := by
  simp [entryInRange, validAddress_iff, and_assoc, Option.all_eq_true]

/-- Mode and pattern name a fallback that fits the output width (R3, R7). -/
theorem entryFallback_eq_some {a : EntryArg} {f : Fallback} : entryFallback a = some f ↔
    f.FitsWidth a.outWidth ∧ match f with
      | .zero => a.mode = 0 ∧ a.pattern = []
      | .hold => a.mode = 1 ∧ a.pattern = []
      | .pattern p => a.mode = 2 ∧ a.pattern = p := by
  unfold entryFallback
  split
  · next h => cases f <;> simp [Fallback.FitsWidth, h]
  · next h => cases f <;> simp [Fallback.FitsWidth, h]
  · next h =>
    cases f <;> simp [Fallback.FitsWidth, h]
    rintro rfl; rfl
  · next h0 h1 h2 =>
    cases f
    · simpa using fun _ h => (h0 h).elim
    · simpa using fun _ h => (h1 h).elim
    · simpa using fun _ h => (h2 h).elim

/-- STAGE_PUT's check gives exactly the entry that the claims say it stores (R3, R7). -/
theorem checkEntry_eq_some {a : EntryArg} {e : RosterEntry} :
    checkEntry a = some e ↔ StoresEntry a e := by
  obtain ⟨address, classCode, inWidth, outWidth, divisor, missLimit, fallback, disabled, label⟩ := e
  unfold checkEntry StoresEntry RosterEntry.Legal
  constructor
  · intro h
    split at h
    · next hrange =>
      obtain ⟨f, hf, he⟩ := Option.map_eq_some_iff.mp h
      obtain ⟨hfit, hmode⟩ := entryFallback_eq_some.mp hf
      obtain ⟨⟨h1, h119⟩, hclass, hin, hout, hdiv, hmiss, hspare, hlabel⟩ := entryInRange_iff.mp hrange
      cases he
      refine ⟨⟨h1, h119, hclass, hin, hout, hdiv, ?_, ?_, hfit, hlabel⟩, hspare, rfl, rfl, rfl, rfl,
        rfl, rfl, rfl, rfl, hmode⟩ <;> dsimp only <;> split <;> omega
    · cases h
  · rintro ⟨⟨h1, h119, hclass, hin, hout, hdiv, -, hmiss, hfit, hlabel⟩, hspare, haddr, hc, hi, ho, hd,
      hm, hs, hl, hmode⟩
    dsimp only at *
    subst haddr hc hi ho hd hm hs hl
    have hmiss' : a.missLimit ≤ 15 := by split at hmiss <;> omega
    rw [if_pos (entryInRange_iff.mpr ⟨⟨h1, h119⟩, hclass, hin, hout, hdiv, hmiss', hspare, hlabel⟩),
      entryFallback_eq_some.mpr ⟨hfit, hmode⟩]
    rfl

/-! ## Entries in address order (R1, R7) -/

theorem insertEntry_addresses (e : RosterEntry) (l : List RosterEntry) :
    (insertEntry e l).map (·.address) = insertAddress e.address (l.map (·.address)) := by
  induction l with
  | nil => rfl
  | cons f l ih =>
    unfold insertEntry
    rw [List.map_cons, insertAddress]
    split
    · rfl
    · split
      · next h => rw [List.map_cons, h]
      · rw [List.map_cons, ih]

theorem mem_insertEntry {e f : RosterEntry} {l : List RosterEntry} (h : f ∈ insertEntry e l) :
    f = e ∨ f ∈ l := by
  induction l with
  | nil => exact .inl (List.mem_singleton.mp h)
  | cons g l ih =>
    unfold insertEntry at h
    split at h
    · exact List.mem_cons.mp h
    · split at h
      · exact (List.mem_cons.mp h).imp_right (List.mem_cons_of_mem _)
      · obtain rfl | h := List.mem_cons.mp h
        · exact .inr List.mem_cons_self
        · exact (ih h).imp_right (List.mem_cons_of_mem _)

/-- The entry put is found under its address, every other address finds what it found before. -/
theorem insertEntry_find? (e : RosterEntry) (l : List RosterEntry) (b : Nat) :
    (insertEntry e l).find? (·.address == b) =
      if b = e.address then some e else l.find? (·.address == b) := by
  induction l with
  | nil =>
    unfold insertEntry
    split
    · next h => simp [h]
    · next h => simp [Ne.symm h]
  | cons f l ih =>
    unfold insertEntry
    by_cases hb : b = e.address
    · subst hb
      split
      · simp
      · split
        · simp
        · next hne => simp [Ne.symm hne, ih]
    · have heb : (e.address == b) = false := by simpa using Ne.symm hb
      rw [if_neg hb] at ih ⊢
      split
      · simp [heb]
      · split
        · next h => simp [heb, ← h]
        · rw [List.find?_cons, List.find?_cons, ih]

/-- An ascending list takes no address twice. -/
theorem insertAddress_of_mem {a : Nat} {l : List Nat} (h : Ascending l) (ha : a ∈ l) :
    insertAddress a l = l := by
  induction l with
  | nil => cases ha
  | cons c l ih =>
    obtain ⟨hc, hl⟩ := List.pairwise_cons.mp h
    unfold insertAddress
    obtain rfl | ha := List.mem_cons.mp ha
    · simp
    · have hca := hc a ha
      rw [if_neg (by omega), if_neg (by omega), ih hl ha]

theorem insertAddress_length_le (a : Nat) (l : List Nat) :
    (insertAddress a l).length ≤ l.length + 1 := by
  induction l with
  | nil => exact Nat.le_refl _
  | cons c l ih =>
    unfold insertAddress
    split
    · exact Nat.le_refl _
    · split
      · exact Nat.le_succ _
      · simpa using ih

/-- A legal entry put where there is room, or in its own place, leaves the roster legal (R1, R3, R7). -/
theorem Roster.Legal.put {r : Roster} (h : r.Legal) {e : RosterEntry} (he : e.Legal)
    (hroom : (r.entry? e.address).isSome = true ∨ r.entries.length < 40) :
    ({ r with entries := insertEntry e r.entries } : Roster).Legal := by
  obtain ⟨hheader, hasc, hlen, hlegal⟩ := h
  refine ⟨hheader, ?_, ?_, fun f hf => ?_⟩
  · rw [insertEntry_addresses]
    exact hasc.insertAddress
  · have hlength := congrArg List.length (insertEntry_addresses e r.entries)
    rw [List.length_map] at hlength
    rcases hroom with hpresent | hroom
    · rw [insertAddress_of_mem hasc (Roster.entry?_isSome.mp hpresent), List.length_map] at hlength
      exact hlength ▸ hlen
    · have := insertAddress_length_le e.address (r.entries.map (·.address))
      rw [List.length_map] at this
      exact hlength ▸ Nat.le_trans this hroom
  · obtain rfl | hf := mem_insertEntry hf
    · exact he
    · exact hlegal f hf

theorem Roster.Legal.remove {r : Roster} (h : r.Legal) (p : RosterEntry → Bool) :
    ({ r with entries := r.entries.filter p } : Roster).Legal := by
  obtain ⟨hheader, hasc, hlen, hlegal⟩ := h
  exact ⟨hheader, List.Pairwise.sublist (List.filter_sublist.map _) hasc,
    Nat.le_trans (List.length_filter_le ..) hlen, fun e he => hlegal e (List.mem_filter.mp he).1⟩

/-- A roster with its default header and no entries is legal (R2). -/
theorem Roster.empty_legal : Roster.empty.Legal :=
  ⟨by unfold Header.Legal; decide, .nil, by decide, nofun⟩

/-! ## The header of STAGE_HEADER (R2, R9) -/

theorem LineSpeed.ofCode_eq_some {n : Nat} {v : LineSpeed} :
    LineSpeed.ofCode n = some v ↔ v.code = n := by
  unfold LineSpeed.ofCode
  split
  case h_5 h0 h1 h2 h3 =>
    refine iff_of_false nofun fun h => ?_
    subst h
    cases v <;> contradiction
  all_goals cases v <;> simp [LineSpeed.code]

theorem RejoinPolicy.ofCode_eq_some {n : Nat} {v : RejoinPolicy} :
    RejoinPolicy.ofCode n = some v ↔ v.code = n := by
  unfold RejoinPolicy.ofCode
  split
  case h_4 h0 h1 h2 =>
    refine iff_of_false nofun fun h => ?_
    subst h
    cases v <;> contradiction
  all_goals cases v <;> simp [RejoinPolicy.code]

theorem inBounds_eq_some {lo hi n m : Nat} : inBounds lo hi n = some m ↔ m = n ∧ lo ≤ n ∧ n ≤ hi := by
  unfold inBounds
  split
  · next h => simp only [Bool.and_eq_true, decide_eq_true_eq] at h; simp [h, eq_comm]
  · next h => simp only [Bool.and_eq_true, decide_eq_true_eq] at h; simp only [h]; simp

theorem windowOf_eq_some {n m : Nat} :
    windowOf n = some m ↔ m = n ∧ 50 ≤ n ∧ n ≤ 2000 ∧ n % 10 = 0 := by
  unfold windowOf
  split
  · next h => simp only [inBounds_eq_some, h, and_true]
  · next h => simp only [h, and_false, reduceCtorEq]

/-- A field given is the one named, a field not given the one kept (R9). -/
theorem headerField_eq_some {α : Type} {given : Bool} {old v : α} {new : Option α} :
    headerField given old new = some v ↔ if given then new = some v else v = old := by
  cases given <;> simp [headerField, eq_comm]

/-- STAGE_HEADER's check gives exactly the header that the claims say it sets (R9). -/
theorem checkHeader_eq_some {a : HeaderArg} {old new : Header} :
    checkHeader a old = some new ↔ SetsHeader a old new := by
  obtain ⟨speed, window, repeats, budget, policy⟩ := new
  unfold checkHeader SetsHeader
  by_cases hmask : a.mask.toNat < 32
  · simp only [if_pos hmask, Option.bind_eq_bind, Option.bind_eq_some_iff, headerField_eq_some,
      LineSpeed.ofCode_eq_some, windowOf_eq_some, inBounds_eq_some, RejoinPolicy.ofCode_eq_some,
      Option.some.injEq, Header.mk.injEq, Nat.zero_le, true_and]
    constructor
    · rintro ⟨_, h1, _, h2, _, h3, _, h4, _, h5, rfl, rfl, rfl, rfl, rfl⟩
      exact ⟨hmask, h1, h2, h3, h4, h5⟩
    · rintro ⟨-, h1, h2, h3, h4, h5⟩
      exact ⟨_, h1, _, h2, _, h3, _, h4, _, h5, rfl, rfl, rfl, rfl, rfl⟩
  · simp [hmask]

/-- STAGE_HEADER leaves a legal header legal (R2, R9). -/
theorem Header.Legal.set {a : HeaderArg} {old new : Header} (h : old.Legal)
    (hs : SetsHeader a old new) : new.Legal := by
  obtain ⟨h50, h2000, h10, hrepeats, hbudget⟩ := h
  obtain ⟨-, -, hwindow, hrep, hbud, -⟩ := hs
  have hw : 50 ≤ new.window ∧ new.window ≤ 2000 ∧ new.window % 10 = 0 := by
    split at hwindow <;> omega
  refine ⟨hw.1, hw.2.1, hw.2.2, ?_, ?_⟩
  · split at hrep <;> omega
  · split at hbud <;> omega

/-- The width sums are within the images (R4, R15). -/
theorem Roster.fits_iff {r : Roster} : r.fits = true ↔ r.Fits := by
  unfold Roster.fits Roster.Fits
  rw [Bool.and_eq_true, decide_eq_true_iff, decide_eq_true_iff]
  rfl

end Sys2Proof.Machine
end

section
/-! SUPPORT. Proofs: the moves of every request, event and step. -/

namespace Sys2Proof.Machine

/-! ## The roster requests (R7 to R16) -/

section
variable (s : State)

theorem moves_onStaged {f : Roster → Roster}
    (h : s.roster.staged.Legal → s.roster.committed.Legal → (f s.roster.staged).Legal) :
    Moves s (s.onStaged f) :=
  (Move.staged (f s.roster.staged) h).moves

/-- An answer moves as the state it leaves. -/
theorem moves_answer {s t : State} (h : Moves s t) (r : Reply) : Moves s ((t, r) : Answer).1 := h

theorem moves_ok {s t : State} (h : Moves s t) (fields : List Byte) : Moves s (t.ok fields).1 := h

theorem moves_takeStagePut (a : EntryArg) : Moves s (takeStagePut a s).1 := by
  unfold takeStagePut
  split
  · exact .refl s
  · next e he =>
    obtain ⟨hlegal, -⟩ := checkEntry_eq_some.mp he
    dsimp only
    split
    · next hroom =>
      rw [Bool.or_eq_true, decide_eq_true_iff] at hroom
      exact moves_ok (moves_onStaged s (f := fun r => { r with entries := insertEntry e r.entries })
        fun hs _ => hs.put hlegal hroom) _
    · exact .refl s

theorem moves_takeStageRemove (a : Nat) : Moves s (takeStageRemove a s).1 := by
  unfold takeStageRemove
  split
  · split
    · exact moves_ok (moves_onStaged s
        (f := fun r => { r with entries := r.entries.filter (·.address != a) })
        fun hs _ => hs.remove _) _
    · exact .refl s
  · exact .refl s

theorem moves_takeStageClear : Moves s (takeStageClear s).1 :=
  moves_ok (moves_onStaged s (f := fun _ => .empty) fun _ _ => Roster.empty_legal) _

theorem moves_takeStageHeader (a : HeaderArg) : Moves s (takeStageHeader a s).1 := by
  unfold takeStageHeader
  split
  · exact .refl s
  · next h hh =>
    exact moves_ok (moves_onStaged s (f := fun r => { r with header := h })
      fun ⟨hheader, hasc, hlen, hlegal⟩ _ =>
        ⟨hheader.set (checkHeader_eq_some.mp hh), hasc, hlen, hlegal⟩) _

theorem moves_takeStageRevert : Moves s (takeStageRevert s).1 :=
  moves_ok (moves_onStaged s (f := fun _ => s.roster.committed) fun _ hc => hc) _

theorem moves_takeReadRosterSingle (src a : Nat) : Moves s (takeReadRosterSingle src a s).1 := by
  unfold takeReadRosterSingle
  (repeat' split) <;> exact .refl s

theorem moves_takeReadRosterRun (src start : Nat) : Moves s (takeReadRosterRun src start s).1 := by
  unfold takeReadRosterRun
  (repeat' split) <;> exact .refl s

theorem moves_takeCommit : Moves s (takeCommit s).1 := by
  unfold takeCommit
  split
  · split
    · exact (Move.deferred (by assumption)).moves
    · exact (Move.committed (by assumption)).moves
  · exact .refl s

/-! ## The line, sweep and survey requests (R47 to R57, R152) -/

theorem moves_takeLineStart : Moves s (takeLineStart s).1 := by
  unfold takeLineStart
  split
  · exact (moves_onSweep s _).trans (moves_setLine _ _)
  · exact .refl s

theorem moves_beginStop : Moves s s.beginStop := by
  have hclosed := moves_close s stopClosing
  unfold State.beginStop
  split
  · exact .refl s
  · exact moves_enterOff s
  · exact moves_enterOff s
  · exact hclosed.trans (moves_handSafe _)
  · exact hclosed.trans (moves_handSafe _)
  · split
    · exact (((moves_applyPending s).trans (moves_close _ _)).trans (moves_onSweep _ _)).trans
        (moves_handSafe _)
    · exact (hclosed.trans (moves_onSweep _ _)).trans (moves_takeCut _)
  · exact hclosed.trans (moves_takeCut _)

theorem moves_takeLineStop : Moves s (takeLineStop s).1 := by
  unfold takeLineStop
  split
  · exact .refl s
  · dsimp only
    split
    · exact moves_close s _
    · exact moves_beginStop s

theorem moves_startPlan (p : Plan) : Moves s (s.startPlan p) := by
  have htaken : Moves s (s.takePlan p) := moves_onSweep s _
  unfold State.startPlan
  split
  · exact (htaken.trans (moves_setLine _ _)).trans (moves_beginSweep _)
  · split
    · exact (htaken.trans (moves_applyPending _)).trans (moves_beginUnlessEmpty _)
    · exact (htaken.trans (moves_onSweep _ _)).trans (moves_takeCut _)

theorem moves_takeStartSweep (mode value : Nat) : Moves s (takeStartSweep mode value s).1 := by
  unfold takeStartSweep
  split
  · exact .refl s
  · split
    · split
      · exact .refl s
      · exact moves_startPlan s _
    · exact .refl s

theorem moves_takeStopSweep : Moves s (takeStopSweep s).1 := by
  unfold takeStopSweep
  split
  · dsimp only
    split
    · exact (moves_applyPending s).trans (moves_goReady _)
    · exact moves_ok (moves_onSweep s _) _
  · exact .refl s

theorem moves_takeStartSurvey : Moves s (takeStartSurvey s).1 := by
  unfold takeStartSurvey
  split
  · exact ((moves_setLine s _).trans (moves_onSurvey _ _)).trans (moves_handIdent _ _ _)
  · exact .refl s

theorem moves_takeReadSurvey (start compare : Nat) : Moves s (takeReadSurvey start compare s).1 := by
  unfold takeReadSurvey
  split <;> exact .refl s

/-! ## The requests on one station (R39 to R42) -/

/-- A station request moves as its owner does on the record found. -/
theorem moves_withStation {a : Nat} {owner : Station → State → Answer}
    (h : ∀ t, s.station? a = some t → t.address = a → Moves s (owner t s).1) :
    Moves s (s.withStation a owner).1 := by
  unfold State.withStation
  split
  · split
    · exact .refl s
    · next t ht => exact h t ht (State.station?_some ht).2
  · exact .refl s

theorem moves_disable (t : Station) : Moves s (s.disable t) := by
  have hdisabled := moves_onStation_zero s (f := Station.disable) t.address (fun _ => rfl)
    (fun _ => rfl) fun _ => ⟨nofun, nofun⟩
  exact ((hdisabled.trans (moves_departFrom _ _ _)).trans (moves_markStation _ _)).trans
    (moves_announce _ _ _)

theorem moves_takeDisableStation (a : Nat) : Moves s (takeDisableStation a s).1 :=
  moves_withStation s fun t _ _ => by
    split
    · exact .refl s
    · exact moves_disable s t

/-- A record changes its state alone, to one that is LOST or PARKED exactly as the one before. -/
theorem moves_restate {s : State} {t : Station} (ht : s.station? t.address = some t)
    {st : StationState} (h : (t.state = .lost ∨ t.state = .parked) ↔ (st = .lost ∨ st = .parked)) :
    Moves s (s.onStation t.address fun r => { r with state := st }) := by
  refine (Move.station t.address (fun r => { r with state := st }) (fun _ => rfl)
    fun r e hr _ _ ⟨hle, hiff⟩ => ⟨hle, ?_⟩).moves
  obtain rfl : r = t := Option.some.inj (hr.symm.trans ht)
  exact hiff.trans h

theorem moves_takeEnableStation (a : Nat) : Moves s (takeEnableStation a s).1 :=
  moves_withStation s fun t ht ha => by
    split
    · next hd => exact (moves_restate (ha ▸ ht) (by simp [hd])).trans (moves_announce _ _ _)
    · exact .refl s

theorem moves_takeReadmit (a : Nat) : Moves s (takeReadmit a s).1 :=
  moves_withStation s fun t ht ha => by
    split
    · next hp =>
      exact ((moves_restate (ha ▸ ht) (by simp [hp])).trans (moves_markInactive _ _ _)).trans
        (moves_announce _ _ _)
    · exact ((moves_onStation_zero s _ (fun _ => by rfl) (fun _ => by rfl)
        fun _ => ⟨by nofun, by nofun⟩).trans (moves_markInactive _ _ _)).trans (moves_announce _ _ _)
    all_goals exact .refl s

theorem moves_takeReadStation (a : Nat) : Moves s (takeReadStation a s).1 :=
  moves_withStation s fun _ _ _ => .refl s

/-! ## The process image and the lease (R100 to R113) -/

theorem moves_takeReadInputsList (l : List Nat) : Moves s (takeReadInputsList l s).1 := by
  unfold takeReadInputsList
  (repeat' split) <;> exact .refl s

theorem moves_takeReadInputsRun (start : Nat) : Moves s (takeReadInputsRun start s).1 := by
  unfold takeReadInputsRun
  split <;> exact .refl s

theorem moves_takeReadOutputsList (l : List Nat) : Moves s (takeReadOutputsList l s).1 := by
  unfold takeReadOutputsList
  (repeat' split) <;> exact .refl s

theorem moves_takeReadOutputsRun (start : Nat) : Moves s (takeReadOutputsRun start s).1 := by
  unfold takeReadOutputsRun
  split <;> exact .refl s

theorem moves_setLease (l : Lease) : Moves s (s.setLease l) := moves_onImage s rfl

theorem moves_leaseRestored : Moves s s.leaseRestored := moves_markInactive s _ _

theorem moves_renewByWrite : Moves s s.renewByWrite := by
  unfold State.renewByWrite
  split
  · exact .refl s
  · exact moves_setLease s _
  · exact (moves_setLease s _).trans (moves_leaseRestored _)

theorem moves_takeLease (p : Nat) : Moves s (s.takeLease p) := by
  unfold State.takeLease
  split
  · split
    · exact .refl s
    · exact moves_setLease s _
  · split <;> exact moves_setLease s _
  · split
    · exact (moves_setLease s _).trans (moves_leaseRestored _)
    · exact moves_setLease s _

theorem moves_takeSetLease (p : Nat) : Moves s (takeSetLease p s).1 := by
  unfold takeSetLease
  split
  · exact moves_takeLease s p
  · exact .refl s

theorem moves_takeRenewLease : Moves s (takeRenewLease s).1 := by
  unfold takeRenewLease
  split
  · exact moves_setLease s _
  all_goals exact .refl s

theorem moves_takeWriteOutputs (items : List OutputItem) : Moves s (takeWriteOutputs items s).1 := by
  unfold takeWriteOutputs
  (repeat' split)
  · have hwritten : Moves s (items.foldl State.stageItem s) :=
      moves_foldl s (fun t _ => moves_onImageOf t (fun _ => by rfl) _) items
    exact moves_ok (hwritten.trans (moves_renewByWrite _)) _
  all_goals exact .refl s

theorem moves_expireLease (p : Nat) : Moves s (s.expireLease p) := by
  refine ((moves_setLease s (.expired p)).trans (moves_mapImages _ fun i => ?_)).trans
    (moves_raiseLineFault _ _ _)
  unfold Roster.expire
  (repeat' split) <;> rfl

/-! ## The transaction requests (R117 to R123) -/

theorem moves_takeSubmit (a : SubmitArg) : Moves s (takeSubmit a s).1 := by
  unfold takeSubmit
  split
  · split
    · split
      · exact (Move.submitted a (by assumption) (by assumption)).moves
      · exact .refl s
    · exact .refl s
  · exact .refl s

theorem moves_withTxn {id : Nat} {owner : Txn → State → Answer}
    (h : ∀ t, Moves s (owner t s).1) : Moves s (s.withTxn id owner).1 := by
  unfold State.withTxn
  split
  · exact .refl s
  · split
    · exact .refl s
    · exact h _

theorem moves_takeQueryRequest (id : Nat) : Moves s (takeQueryRequest id s).1 :=
  moves_withTxn s fun _ => .refl s

theorem moves_takeFetchResult (id : Nat) : Moves s (takeFetchResult id s).1 :=
  moves_withTxn s fun t => by
    split
    · exact .refl s
    · exact (Move.dropped id).moves

theorem moves_takeDiscardResult (id : Nat) : Moves s (takeDiscardResult id s).1 :=
  moves_withTxn s fun t => by
    split
    · exact .refl s
    · exact (Move.dropped id).moves

theorem moves_takeCancel (id : Nat) : Moves s (takeCancel id s).1 :=
  moves_withTxn s fun t => by
    split
    · exact moves_endTxn s _ _ _ _
    · exact .refl s

/-! ## Faults, notices and the Host Port's own requests -/

theorem moves_takeAckFault (a code : Nat) : Moves s (takeAckFault a code s).1 := by
  unfold takeAckFault
  (repeat' split)
  · exact .refl s
  · exact .refl s
  · exact moves_onFaults s _
  · exact .refl s

theorem moves_takeAckOldest : Moves s (takeAckOldest s).1 := by
  unfold takeAckOldest
  split
  · exact .refl s
  · exact moves_onFaults s _

theorem moves_takeReadCapture : Moves s (takeReadCapture s).1 := by
  unfold takeReadCapture
  split <;> exact .refl s

theorem moves_takeSetNoticeClass (kind cls : Option Nat) :
    Moves s (takeSetNoticeClass kind cls s).1 := by
  unfold takeSetNoticeClass
  split
  · unfold State.setClass
    split
    · exact .refl s
    · split
      · exact moves_ok (moves_onNotices s _) _
      · exact .refl s
  all_goals exact .refl s

theorem moves_takeGrantNotices (n : Nat) : Moves s (takeGrantNotices n s).1 := by
  unfold takeGrantNotices
  split
  · exact moves_ok (moves_onNotices s _) _
  · exact .refl s

theorem moves_takeFetchNotice : Moves s (takeFetchNotice s).1 := by
  unfold takeFetchNotice
  split
  · exact .refl s
  · exact moves_onNotices s _

theorem moves_takeSetBaud (rate : Nat) : Moves s (takeSetBaud rate s).1 := by
  unfold takeSetBaud
  split <;> exact .refl s

theorem moves_clearCounters : Moves s s.clearCounters :=
  (((moves_countLine s _).trans (moves_onHost _ _)).trans (moves_onSweep _ _)).trans
    (moves_onStations _ (by rw [List.map_map]; rfl))

/-! ## The Host Port's acceptance (R176, R177) -/

/-- Every request's owner moves. -/
theorem moves_owner {i : Instr} {owner : State → Answer} (h : ownerOf i = some owner) :
    Moves s (owner s).1 := by
  cases i <;> cases h
  case deviceReset => exact moves_answer (moves_onHost s _) _
  case setBaud => exact moves_takeSetBaud s _
  case clearCounters => exact moves_clearCounters s
  case stagePut => exact moves_takeStagePut s _
  case stageRemove => exact moves_takeStageRemove s _
  case stageClear => exact moves_takeStageClear s
  case stageHeader => exact moves_takeStageHeader s _
  case stageRevert => exact moves_takeStageRevert s
  case readRosterSingle => exact moves_takeReadRosterSingle s _ _
  case readRosterRun => exact moves_takeReadRosterRun s _ _
  case commit => exact moves_takeCommit s
  case lineStart => exact moves_takeLineStart s
  case lineStop => exact moves_takeLineStop s
  case startSweep => exact moves_takeStartSweep s _ _
  case stopSweep => exact moves_takeStopSweep s
  case startSurvey => exact moves_takeStartSurvey s
  case readSurvey => exact moves_takeReadSurvey s _ _
  case disableStation => exact moves_takeDisableStation s _
  case enableStation => exact moves_takeEnableStation s _
  case readmit => exact moves_takeReadmit s _
  case readStation => exact moves_takeReadStation s _
  case readInputsList => exact moves_takeReadInputsList s _
  case readInputsRun => exact moves_takeReadInputsRun s _
  case writeOutputs => exact moves_takeWriteOutputs s _
  case readOutputsList => exact moves_takeReadOutputsList s _
  case readOutputsRun => exact moves_takeReadOutputsRun s _
  case setLease => exact moves_takeSetLease s _
  case renewLease => exact moves_takeRenewLease s
  case submit => exact moves_takeSubmit s _
  case queryRequest => exact moves_takeQueryRequest s _
  case fetchResult => exact moves_takeFetchResult s _
  case discardResult => exact moves_takeDiscardResult s _
  case cancel => exact moves_takeCancel s _
  case ackFault => exact moves_takeAckFault s _ _
  case ackOldest => exact moves_takeAckOldest s
  case clearFaults => exact moves_ok (moves_onFaults s _) _
  case readCapture => exact moves_takeReadCapture s
  case clearCapture => exact moves_ok (moves_onFaults s _) _
  case setNoticeClass => exact moves_takeSetNoticeClass s _ _
  case grantNotices => exact moves_takeGrantNotices s _
  case withholdNotices => exact moves_ok (moves_onNotices s _) _
  case fetchNotice => exact moves_takeFetchNotice s
  case identify | readCounters | readSweepStatus | listRequests | readFaults => exact .refl s

theorem moves_unknownKind : Moves s s.unknownKind.1 :=
  moves_answer (moves_onHost s _) _

theorem moves_answerParsed (p : Parsed) : Moves s (answerParsed p s).1 := by
  unfold answerParsed
  split
  · split
    · exact moves_owner s (by assumption)
    · exact moves_unknownKind s
  · exact moves_unknownKind s
  · exact .refl s
  · exact .refl s

theorem moves_hold (h : Held) : Moves s (s.hold h) := moves_onHost s _

theorem moves_acceptFrame (tag kind : Byte) {owner : State → Answer}
    (h : ∀ s, Moves s (owner s).1) : Moves s (s.acceptFrame tag kind owner) := by
  have hcounted := moves_onHost s fun p =>
    { p with counters := { p.counters with good := satInc p.counters.good } }
  unfold State.acceptFrame
  dsimp only
  split
  · split
    · exact hcounted.trans (moves_hold _ _)
    · exact (hcounted.trans (h _)).trans (moves_hold _ _)
  · exact (hcounted.trans (moves_hold _ _)).trans (moves_onHost _ _)

theorem moves_request (tag kind : Byte) {owner : State → Answer}
    (h : ∀ s, Moves s (owner s).1) : Moves s (s.request tag kind owner) := by
  unfold State.request
  split
  · exact (moves_acceptFrame s tag kind h).trans (moves_pump _)
  · exact .refl s

/-! ## Bytes and frames of the host (R174 to R183) -/

theorem moves_frameComplete (bytes : List Byte) : Moves s (s.frameComplete bytes) := by
  unfold State.frameComplete
  dsimp only
  split
  · split
    · exact (moves_onHost s _).trans (moves_acceptFrame _ _ _ fun t => moves_answerParsed t _)
    · exact moves_onHost s _
  · exact moves_onHost s _

theorem moves_takeByte (bytes : List Byte) : Moves s (s.takeByte bytes) := by
  unfold State.takeByte
  split
  · (repeat' split) <;> exact moves_onHost s _
  · exact moves_onHost s _
  · split
    · exact moves_frameComplete s _
    · exact moves_onHost s _
  all_goals exact .refl s

theorem moves_hostByte (b : Byte) (error : Bool) : Moves s (s.hostByte b error) := by
  unfold State.hostByte
  split
  · split
    · exact moves_onHost s _
    · exact .refl s
  · exact .refl s
  · exact .refl s
  all_goals
    split
    · exact moves_onHost s _
    · exact moves_takeByte s _

theorem moves_afterReset (baud : Baud) (cause : ResetCause) : Moves s (s.afterReset baud cause) :=
  (Move.reset baud cause).moves

theorem moves_transmitted : Moves s s.transmitted := by
  unfold State.transmitted
  split
  · exact .refl s
  · exact moves_onHost s _
  · split
    · exact moves_onHost s _
    · next h _ _ =>
      refine (moves_onHost s (·.freePlace h)).trans ?_
      unfold State.afterReply
      split
      · exact .refl _
      · exact moves_onHost _ _
      · exact moves_afterReset _ _ _

end

/-! ## Every command and every step -/

/-- A request's command is its frame's acceptance by its owner. -/
theorem exec_request {i : Instr} {owner : State → Answer} (h : ownerOf i = some owner) (s : State) :
    ∃ tag kind, exec i s = .next (s.request tag kind owner) := by
  cases i <;> cases h <;> exact ⟨_, _, rfl⟩

/-- Every command moves. -/
theorem exec_moves {i : Instr} {s t : State} (h : exec i s = .next t) : Moves s t := by
  cases howner : ownerOf i with
  | some owner =>
    obtain ⟨tag, kind, hexec⟩ := exec_request howner s
    cases hexec.symm.trans h
    exact moves_request s tag kind fun s => moves_owner s howner
  | none =>
    cases i
    case hostFrameReceived bytes =>
      cases h; exact (moves_foldl s (fun t b => moves_hostByte t b false) bytes).trans (moves_pump _)
    case hostByteReceived b error => cases h; exact (moves_hostByte s b error).trans (moves_pump _)
    case powerOnReset high => cases h; exact moves_afterReset s _ _
    case pinReset high => cases h; exact moves_afterReset s _ _
    case fieldCharacterReceived c => cases h; exact (moves_fieldChar s c).trans (moves_pump _)
    case hostGapExpiry =>
      dsimp only [exec] at h; unfold execHostGapExpiry at h
      split at h <;> cases h
      · exact ((moves_at s _).trans (moves_onHost _ _)).trans (moves_pump _)
      · exact .refl s
    case transmitComplete =>
      dsimp only [exec] at h; unfold execTransmitComplete at h
      split at h <;> cases h
      · exact .refl s
      · exact (moves_transmitted s).trans (moves_pump _)
    case quietIntervalExpiry =>
      dsimp only [exec] at h; unfold execQuietIntervalExpiry at h
      split at h <;> cases h
      · exact ((moves_at s _).trans (moves_setLine _ _)).trans (moves_pump _)
      · exact .refl s
    case transmissionComplete =>
      dsimp only [exec] at h; unfold execTransmissionComplete at h
      split at h <;> cases h
      · exact ((moves_at s _).trans (moves_openWindow _ _)).trans (moves_pump _)
      · exact .refl s
    case echoCollision =>
      dsimp only [exec] at h; unfold execEchoCollision at h
      split at h <;> cases h
      · exact (moves_collision s).trans (moves_pump _)
      · exact .refl s
    case replyWindowExpiry =>
      dsimp only [exec] at h; unfold execReplyWindowExpiry at h
      split at h <;> cases h
      · next hx =>
        exact ((moves_at s _).trans (moves_judged (s := s.at s.engine.due) hx
          (fun _ h => by cases h) _)).trans (moves_pump _)
      · exact .refl s
    case replyFrameEnd rest =>
      dsimp only [exec] at h; unfold execReplyFrameEnd at h
      split at h <;> cases h
      · exact ((moves_takeRest s _ _).trans (moves_endTaken _ _)).trans (moves_pump _)
      · exact .refl s
    case unawaitedFrameEnd rest =>
      dsimp only [exec] at h; unfold execUnawaitedFrameEnd at h
      split at h <;> cases h
      · exact ((moves_takeRest s _ _).trans (moves_endTaken _ _)).trans (moves_pump _)
      · exact .refl s
    case fieldGapExpiry =>
      dsimp only [exec] at h; unfold execFieldGapExpiry at h
      split at h <;> cases h
      · exact ((moves_at s _).trans (moves_frameEnd _ _ _)).trans (moves_pump _)
      · exact .refl s
    case guardExpiry =>
      dsimp only [exec] at h; unfold execGuardExpiry at h
      split at h <;> cases h
      · exact ((moves_at s _).trans (moves_guardDone _)).trans (moves_pump _)
      · exact .refl s
    case safeComplete =>
      dsimp only [exec] at h; unfold execSafeComplete at h
      split at h <;> cases h
      · exact ((moves_at s _).trans (moves_safeDone _)).trans (moves_pump _)
      · exact .refl s
    case pacedWaitEnd =>
      dsimp only [exec] at h; unfold execPacedWaitEnd at h
      split at h <;> cases h
      · exact (((moves_at s _).trans (moves_applyPending _)).trans (moves_beginUnlessEmpty _)).trans
          (moves_pump _)
      · exact .refl s
    case leaseExpiry =>
      dsimp only [exec] at h; unfold execLeaseExpiry at h
      split at h <;> cases h
      · exact ((moves_at s _).trans (moves_expireLease _ _)).trans (moves_pump _)
      all_goals exact .refl s
    case deadlineExpiry id =>
      dsimp only [exec] at h; unfold execDeadlineExpiry at h
      split at h <;> cases h
      · exact ((moves_at s _).trans (moves_endTxn _ _ _ _ _)).trans (moves_pump _)
      · exact .refl s
    all_goals cases howner

theorem moves_tick (s : State) : Moves s s.tick := by
  have hlater : Moves s { s with now := s.now + 1 } := .quiet rfl rfl rfl rfl rfl
  unfold State.tick
  dsimp only
  split
  · exact (hlater.trans (moves_endPhase _)).trans (moves_pump _)
  · exact hlater

/-- Every step of the part is a chain of moves. -/
theorem step_moves {s t : State} (h : step s = .next t) : Moves s t := by
  unfold step at h
  split at h
  · next i rest _ =>
    have htaken : Moves s { s with pending := rest } := .quiet rfl rfl rfl rfl rfl
    exact htaken.trans (exec_moves h)
  · unfold idle at h
    split at h
    · exact exec_moves h
    · cases h
      exact moves_tick s

/-- What every move keeps, every step keeps. -/
theorem step_keeps {P : State → Prop} (h : ∀ s t, Move s t → P s → P t) {s t : State}
    (hs : P s) (hstep : step s = .next t) : P t :=
  (step_moves hstep).keeps h hs

end Sys2Proof.Machine
end

section
/-! SUPPORT. Proofs: rosters, records and the miss count law in every step (R1 to R4, R24, R28). -/

namespace Sys2Proof.Machine

/-- R28's law over the standings of the records. -/
theorem State.missLaw_iff {s : State} : s.MissLaw ↔
    ∀ p ∈ s.stations.map Station.standing, ∀ e ∈ s.roster.committed.entries, e.address = p.1 →
      p.2.2 ≤ e.missLimit ∧ (p.2.2 = e.missLimit ↔ p.2.1 = .lost ∨ p.2.1 = .parked) := by
  simp only [List.forall_mem_map]
  rfl

/-- The laws of the records speak of rosters, standings and image addresses alone. -/
theorem State.StationsLawful.congr {s t : State} (hs : s.StationsLawful) (hr : t.roster = s.roster)
    (hst : t.stations.map Station.standing = s.stations.map Station.standing)
    (hi : t.image.images.map (·.address) = s.image.images.map (·.address)) : t.StationsLawful := by
  obtain ⟨hlegal, ⟨hmatch, himages⟩, hmiss⟩ := hs
  refine ⟨?_, ⟨?_, ?_⟩, ?_⟩
  · unfold State.RostersLegal
    rwa [hr]
  · have := congrArg (List.map Prod.fst) hst
    rw [List.map_map, List.map_map] at this
    rw [hr]
    exact this.trans hmatch
  · rw [hi, hr, himages]
  · rw [State.missLaw_iff] at hmiss ⊢
    rwa [hr, hst]

/-- Where records match a legal roster, the record of an address is the one its address finds (R24). -/
theorem State.station?_of_mem {s : State} (hlegal : s.roster.committed.Legal)
    (hmatch : s.RecordsMatchRoster) {r : Station} (hr : r ∈ s.stations) :
    s.station? r.address = some r := by
  obtain ⟨-, hasc, -, -⟩ := hlegal
  refine find?_key_of_mem (key := Station.address) ?_ hr
  rw [hmatch.1]
  exact hasc.nodup

/-- A record that keeps R28 against its entry leaves the records lawful. -/
theorem State.StationsLawful.station {s : State} (hs : s.StationsLawful) (a : Nat)
    (f : Station → Station) (hf : ∀ r, (f r).address = r.address)
    (h : ∀ r e, s.station? a = some r → s.entry? a = some e → 1 ≤ e.missLimit →
      r.MissLaw e.missLimit → (f r).MissLaw e.missLimit) : (s.onStation a f).StationsLawful := by
  obtain ⟨hlegal, ⟨hmatch, himages⟩, hmiss⟩ := hs
  have hcommitted := hlegal.2.1
  refine ⟨hlegal, ⟨?_, himages⟩, fun r hr e he hea => ?_⟩
  · refine Eq.trans ?_ hmatch
    rw [State.onStation, State.onStations_stations, List.map_map]
    refine List.map_congr_left fun r _ => ?_
    dsimp only [Function.comp]
    split
    · exact hf r
    · rfl
  · obtain ⟨r, hmem, rfl⟩ := List.mem_map.mp hr
    split at hea
    · next ha =>
      subst ha
      rw [if_pos rfl]
      rw [hf] at hea
      have hentry : s.entry? r.address = some e := hea ▸ hcommitted.entry?_of_mem he
      obtain ⟨-, -, -, hentries⟩ := hcommitted
      obtain ⟨-, -, -, -, -, -, hlimit, -⟩ := hentries e he
      exact h r e (State.station?_of_mem hlegal.2.1 ⟨hmatch, himages⟩ hmem) hentry hlimit
        (hmiss r hmem e he hea)
    · next ha =>
      rw [if_neg ha]
      exact hmiss r hmem e he hea

/-- A fresh record obeys R28. -/
theorem RosterEntry.freshStation_missLaw (e : RosterEntry) {limit : Nat} (hl : 1 ≤ limit) :
    e.freshStation.MissLaw limit := by
  refine Station.missLaw_zero hl rfl ?_
  cases h : e.startDisabled <;> simp [RosterEntry.freshStation, h]

/-- Applying a legal roster that fits leaves the records lawful: a Kept record keeps its limit, any other
starts afresh (R18 to R21, R24). -/
theorem State.StationsLawful.applyRoster {s : State} (hs : s.StationsLawful) {new : Roster}
    (hn : new.Legal) (hfits : new.Fits) : (s.applyRoster new).StationsLawful := by
  obtain ⟨⟨hstaged, hcommitted, -, hpending⟩, hmatch, hmiss⟩ := hs
  refine ⟨?_, ⟨?_, ?_⟩, fun t ht e he hea => ?_⟩
  · unfold State.RostersLegal
    rw [State.applyRoster_roster]
    exact ⟨hstaged, hn, hfits, hpending⟩
  · rw [State.applyRoster_stations, State.applyRoster_roster, rebuildStations_addresses]
  · rw [State.applyRoster_image, State.applyRoster_roster, rebuildImages_addresses]
  · rw [State.applyRoster_stations] at ht
    rw [State.applyRoster_roster] at he
    obtain ⟨f, hf, rfl⟩ := List.mem_map.mp ht
    obtain ⟨-, -, -, hentries⟩ := id hn
    obtain ⟨-, -, -, -, -, -, hlimit, -⟩ := hentries e he
    split at hea
    · next r hk hr =>
      obtain ⟨hr, hra⟩ := State.station?_some (s := s) hr
      obtain rfl : f = e := by
        have hfe := hn.entry?_of_mem hf
        rw [← hra, ← hea, hn.entry?_of_mem he] at hfe
        exact (Option.some.inj hfe).symm
      obtain ⟨g, hg, hkey⟩ := addressClass_kept hk (hn.entry?_of_mem hf)
      obtain ⟨hg, hga⟩ := Roster.entry?_some hg
      have hlimits : g.missLimit = f.missLimit := by
        simp only [RosterEntry.sameKey, Bool.and_eq_true, beq_iff_eq] at hkey
        exact hkey.2
      exact hlimits ▸ hmiss r hr g hg (hga.trans hra.symm)
    · exact f.freshStation_missLaw hlimit

/-- The records are lawful after a reset (R6). -/
theorem State.afterReset_stationsLawful (s : State) (baud : Baud) (cause : ResetCause) :
    (s.afterReset baud cause).StationsLawful :=
  ⟨⟨Roster.empty_legal, Roster.empty_legal, Roster.fits_iff.mp rfl, nofun⟩, ⟨rfl, rfl⟩,
    fun _ ht => (List.not_mem_nil ht).elim⟩

/-- Every move keeps the laws of the records. -/
theorem Move.stationsLawful {s t : State} (h : Move s t) (hs : s.StationsLawful) :
    t.StationsLawful := by
  obtain ⟨⟨hstaged, hcommitted, hfit, hpending⟩, hmatch, hmiss⟩ := id hs
  cases h with
  | eased h => exact hs.congr h.roster h.stations h.images
  | staged r h => exact ⟨⟨h hstaged hcommitted, hcommitted, hfit, hpending⟩, hmatch, hmiss⟩
  | deferred h =>
    refine ⟨⟨hstaged, hcommitted, hfit, fun r hr => ?_⟩, hmatch, hmiss⟩
    cases hr
    exact ⟨hstaged, Roster.fits_iff.mp h⟩
  | committed h => exact hs.applyRoster hstaged (Roster.fits_iff.mp h)
  | @copied r h =>
    have hdropped : (s.onRoster fun m => { m with pendingCopy := none }).StationsLawful :=
      ⟨⟨hstaged, hcommitted, hfit, nofun⟩, hmatch, hmiss⟩
    obtain ⟨hlegal, hfits⟩ := hpending r h
    exact hdropped.applyRoster hlegal hfits
  | station a f hf h => exact hs.station a f hf h
  | submitted | dropped | answered | handed => exact hs.congr rfl rfl rfl
  | reset baud cause => exact s.afterReset_stationsLawful baud cause

/-- Settles O5: every move keeps the laws of rosters, records and miss counts. -/
theorem stationRecordsStayLawful : Obligations.StationRecordsStayLawful :=
  fun _ _ hs hstep => step_keeps (fun _ _ h => h.stationsLawful) hs hstep

end Sys2Proof.Machine
end

section
/-! SUPPORT. Proofs: the bounds of R116 and the roster entries of live records in every step. -/

namespace Sys2Proof.Machine

/-- The addresses of the AWAITING records, in acceptance order. -/
def RequestQueue.awaited (q : RequestQueue) : List Nat :=
  (q.records.filter (·.isAwaiting)).map (·.address)

theorem RequestQueue.awaited_length (q : RequestQueue) :
    q.awaited.length = (q.records.filter (·.isAwaiting)).length := List.length_map _

/-- The law of a REQ in flight, over the awaited addresses (R125). -/
theorem State.reqInFlightLaw_iff {s : State} : s.ReqInFlightLaw ↔
    ∀ x, s.engine.exchange = some x → x.chooser = .acyclic → x.kind = .req → s.RoomFor x.address := by
  have key (a : Nat) : (∀ t ∈ s.requests.records, t.isAwaiting = true → t.address ≠ a) ↔
      a ∉ (s.requests.records.filter (·.isAwaiting)).map (·.address) := by
    simp [List.mem_map, List.mem_filter]
  simp only [State.ReqInFlightLaw, State.RoomFor, key]
  rfl

/-- Room for a REQ stays where no more records await. -/
theorem State.RoomFor.mono {s t : State} {a : Nat} (h : s.RoomFor a)
    (hsub : t.requests.awaited.Sublist s.requests.awaited) : t.RoomFor a := by
  obtain ⟨hlt, hnot⟩ := h
  refine ⟨?_, fun hmem => hnot (hsub.subset hmem)⟩
  have := hsub.length_le
  rw [RequestQueue.awaited_length, RequestQueue.awaited_length] at this
  omega

/-- The bounds of R116 stay where records come from lawful ones and no more of them await. -/
theorem RequestQueue.Bounded.mono {q r : RequestQueue} (h : q.Bounded)
    (hids : (r.records.map (·.id)).Sublist (q.records.map (·.id))) (hn : r.nextId = q.nextId)
    (hsub : r.awaited.Sublist q.awaited) : r.Bounded := by
  obtain ⟨hlen, hnodup, hrange, h1, h255, hawait, hdistinct⟩ := h
  refine ⟨?_, hnodup.sublist hids, fun t ht => ?_, hn ▸ h1, hn ▸ h255, ?_, hdistinct.sublist hsub⟩
  · have := hids.length_le
    rw [List.length_map, List.length_map] at this
    omega
  · obtain ⟨u, hu, hid⟩ := List.mem_map.mp (hids.subset (List.mem_map_of_mem ht))
    rw [← hid]
    exact hrange u hu
  · have := hsub.length_le
    rw [RequestQueue.awaited_length, RequestQueue.awaited_length] at this
    omega

/-- What settles, under rosters that hold an entry for every live record left, stays lawful, the exchange
in flight being the same or none. -/
theorem State.RequestsLawful.settle {s t : State} (hs : s.RequestsLawful)
    (hsettles : Settles s.requests.records t.requests.records)
    (hn : t.requests.nextId = s.requests.nextId)
    (hx : t.engine.exchange = s.engine.exchange ∨ t.engine.exchange = none)
    (hlive : ∀ u ∈ s.requests.records, ∀ v ∈ t.requests.records, u.Settles v → v.live = true →
      (s.entry? u.address).isSome = true → (t.entry? v.address).isSome = true) :
    t.RequestsLawful := by
  obtain ⟨hbounded, hreq, hrostered⟩ := hs
  rw [State.reqInFlightLaw_iff] at hreq
  refine ⟨hbounded.mono (by simp only [hsettles.ids, List.Sublist.refl]) hn hsettles.awaiting, ?_,
    fun v hv hvlive => ?_⟩
  · rw [State.reqInFlightLaw_iff]
    intro x hx' hc hk
    rcases hx with hx | hx
    · exact (hreq x (hx ▸ hx') hc hk).mono hsettles.awaiting
    · rw [hx] at hx'; cases hx'
  · obtain ⟨u, hu, huv⟩ := hsettles.mem hv
    have hvlive' := Txn.live_iff.mpr hvlive
    exact hlive u hu v hv huv hvlive'
      (hrostered u hu (by rwa [← huv.state_eq hvlive']))

/-- An application leaves no live record without an entry (R20, R21). -/
theorem State.RequestsLawful.applyRoster {s : State} (hs : s.RequestsLawful) (new : Roster) :
    (s.applyRoster new).RequestsLawful := by
  refine hs.settle (s.applyRoster_settles new) (State.applyRoster_nextId ..)
    (.inl (by rw [State.applyRoster_engine])) fun u _ v hv huv hlive hentry => ?_
  rw [State.entry?, State.applyRoster_roster]
  cases hnew : new.entry? v.address with
  | some e => rfl
  | none =>
    have hremoved := addressClass_removed.mpr ⟨huv.2.1 ▸ hentry, hnew⟩
    rw [(State.applyRoster_left hv).2 hremoved] at hlive
    cases hlive

/-! ## SUBMIT (R117, R118) -/

/-- Every id of 1..255 is offered. -/
theorem mem_idsFrom {next id : Nat} (h1 : 1 ≤ id) (h255 : id ≤ 255) : id ∈ idsFrom next := by
  refine List.mem_map.mpr ⟨(id - 1 + 255 - (next - 1) % 255) % 255,
    List.mem_range.mpr (Nat.mod_lt _ (by decide)), ?_⟩
  omega

/-- Fewer than 255 records leave an id free, and the one given is in range and free (R118). -/
theorem RequestQueue.freeId_spec {q : RequestQueue} (h : q.records.length < 255) :
    1 ≤ q.freeId ∧ q.freeId ≤ 255 ∧ q.freeId ∉ q.records.map (·.id) := by
  have hfree : ∃ id ∈ idsFrom q.nextId, id ∉ q.records.map (·.id) := by
    refine Classical.byContradiction fun hall => ?_
    have hsub : List.range' 1 255 ⊆ q.records.map (·.id) := fun id hid => by
      obtain ⟨h1, h255⟩ := List.mem_range'_1.mp hid
      exact Classical.not_not.mp fun hnot => hall ⟨id, mem_idsFrom h1 (by omega), hnot⟩
    have hle := (List.nodup_range' (step := 1)).length_le_of_subset hsub
    simp only [List.length_map, List.length_range'] at hle
    omega
  obtain ⟨id, hid, hnot⟩ := hfree
  have hsome : ((idsFrom q.nextId).find? fun id => !(q.records.any (·.id == id))).isSome = true :=
    List.find?_isSome.mpr ⟨id, hid, by simpa using hnot⟩
  obtain ⟨k, hk⟩ := Option.isSome_iff_exists.mp hsome
  have hfound : q.freeId = k := by rw [RequestQueue.freeId, hk]; rfl
  rw [hfound]
  obtain ⟨j, -, rfl⟩ := List.mem_map.mp (List.mem_of_find?_eq_some hk)
  refine ⟨by omega, by omega, ?_⟩
  simpa using List.find?_some hk

/-- A SUBMIT that is taken keeps the bounds: its record is QUEUED, of a free id and a rostered station. -/
theorem State.RequestsLawful.submit {s : State} (hs : s.RequestsLawful) {a : SubmitArg}
    (hentry : (s.entry? a.address).isSome = true)
    (hroom : s.requests.records.length < Config.maxRecords) : (s.accept a).RequestsLawful := by
  obtain ⟨⟨hlen, hnodup, hrange, -, -, hawait, hdistinct⟩, hreq, hrostered⟩ := hs
  have hroom : s.requests.records.length < 24 := hroom
  obtain ⟨hid1, hid255, hidnew⟩ := RequestQueue.freeId_spec (q := s.requests) (by omega)
  have hrecords : (s.accept a).requests.records =
      s.requests.records ++ [SubmitArg.txn a s.requests.freeId s.now] := rfl
  have hawaiting : (s.accept a).requests.records.filter (·.isAwaiting) =
      s.requests.records.filter (·.isAwaiting) := by
    rw [hrecords, List.filter_append]
    exact List.append_nil _
  refine ⟨⟨?_, ?_, fun t ht => ?_, ?_, ?_, hawaiting ▸ hawait, hawaiting ▸ hdistinct⟩, ?_,
    fun t ht hlive => ?_⟩
  · rw [hrecords, List.length_append]
    exact hroom
  · rw [hrecords, List.map_append, List.nodup_append]
    refine ⟨hnodup, List.nodup_cons.mpr ⟨nofun, .nil⟩, fun i hi j hj => ?_⟩
    obtain rfl := List.mem_singleton.mp hj
    rintro rfl
    exact hidnew hi
  · rw [hrecords] at ht
    obtain ht | ht := List.mem_append.mp ht
    · exact hrange t ht
    · obtain rfl := List.mem_singleton.mp ht
      exact ⟨hid1, hid255⟩
  · exact Nat.succ_le_succ (Nat.zero_le _)
  · exact Nat.succ_le_of_lt (Nat.mod_lt s.requests.freeId (by decide))
  · rw [State.reqInFlightLaw_iff] at hreq ⊢
    exact fun x hx hc hk => (hreq x hx hc hk).mono
      (by rw [RequestQueue.awaited, hawaiting]; exact .refl _)
  · rw [hrecords] at ht
    obtain ht | ht := List.mem_append.mp ht
    · exact hrostered t ht hlive
    · obtain rfl := List.mem_singleton.mp ht
      exact hentry

/-! ## REQACK (R125, R128) -/

/-- Setting the records of an id changes no other record. -/
theorem map_setId {l : List Txn} {id : Nat} {f : Txn → Txn} (h : id ∉ l.map (·.id)) :
    (l.map fun u => if u.id = id then f u else u) = l := by
  have hsame : ∀ u ∈ l, (if u.id = id then f u else u) = u := fun u hu =>
    if_neg fun (e : u.id = id) => h (e ▸ List.mem_map_of_mem hu)
  rw [List.map_congr_left hsame, List.map_id']

/-- Where an element stands in a list does not matter for whether it repeats one. -/
theorem nodup_append_cons {α : Type} {a : α} {l m : List α} :
    (l ++ a :: m).Nodup ↔ (a :: (l ++ m)).Nodup :=
  List.perm_middle.nodup_iff

/-- Where no two records have one id, setting the records of an id changes one record in its place. -/
theorem State.onTxn_records {s : State} {t : Txn} {before after : List Txn}
    (hsplit : s.requests.records = before ++ t :: after)
    (hid : t.id ∉ (before ++ after).map (·.id)) (f : Txn → Txn) :
    (s.onTxn t.id f).requests.records = before ++ f t :: after := by
  rw [List.map_append, List.mem_append, not_or] at hid
  change s.requests.records.map _ = _
  rw [hsplit, List.map_append, List.map_cons, map_setId hid.1, map_setId hid.2, if_pos rfl]

/-- The record answered ACCEPTED is one more that awaits, at an address that awaited nothing. -/
theorem State.RequestsLawful.answer {s : State} (hs : s.RequestsLawful) {x : Exchange} {t : Txn}
    (hx : s.engine.exchange = some x) (hc : x.chooser = .acyclic) (hk : x.kind = .req)
    (ht : t ∈ s.requests.records) (hq : t.isQueued = true) (ha : t.address = x.address) :
    (s.dropExchange.onTxn t.id fun u => { u with state := .awaiting }).RequestsLawful := by
  obtain ⟨⟨hlen, hnodup, hrange, h1, h255, hawait, hdistinct⟩, hreq, hrostered⟩ := hs
  obtain ⟨hroom, hnot⟩ := State.reqInFlightLaw_iff.mp hreq x hx hc hk
  obtain ⟨before, after, hsplit⟩ := List.append_of_mem ht
  rw [hsplit, List.map_append, List.map_cons, nodup_append_cons, ← List.map_append,
    List.nodup_cons] at hnodup
  obtain ⟨hid, hnodup⟩ := hnodup
  have hrecords := State.onTxn_records (s := s.dropExchange) hsplit hid
    fun u => { u with state := .awaiting }
  have hqueued : t.isAwaiting = false := by
    rw [Txn.isQueued_iff] at hq
    simp [Txn.isAwaiting, hq]
  have hold : s.requests.records.filter (·.isAwaiting) =
      before.filter (·.isAwaiting) ++ after.filter (·.isAwaiting) := by
    simp [hsplit, List.filter_append, hqueued]
  have hnew : (before ++ { t with state := .awaiting } :: after).filter (·.isAwaiting) =
      before.filter (·.isAwaiting) ++ { t with state := .awaiting } :: after.filter (·.isAwaiting) := by
    simp [List.filter_append, Txn.isAwaiting]
  have hmem {u : Txn} (hu : u ∈ before ++ { t with state := .awaiting } :: after) :
      u = { t with state := .awaiting } ∨ u ∈ s.requests.records := by
    rw [hsplit]
    simp only [List.mem_append, List.mem_cons] at hu ⊢
    obtain hu | rfl | hu := hu
    · exact .inr (.inl hu)
    · exact .inl rfl
    · exact .inr (.inr (.inr hu))
  refine ⟨⟨?_, ?_, fun u hu => ?_, h1, h255, ?_, ?_⟩, nofun, fun u hu hlive => ?_⟩ <;> rw [hrecords] at *
  · rw [hsplit] at hlen
    simpa using hlen
  · rw [List.map_append, List.map_cons, nodup_append_cons, ← List.map_append]
    exact List.nodup_cons.mpr ⟨hid, hnodup⟩
  · obtain rfl | hu := hmem hu
    · exact hrange t ht
    · exact hrange u hu
  · rw [hnew]
    rw [hold] at hroom
    simp only [List.length_append, List.length_cons] at hroom ⊢
    omega
  · rw [hnew, List.map_append, List.map_cons, nodup_append_cons, ← List.map_append, ← hold]
    exact List.nodup_cons.mpr ⟨by rwa [ha], hdistinct⟩
  · obtain rfl | hu := hmem hu
    · exact hrostered t ht (.inl (Txn.isQueued_iff.mp hq))
    · exact hrostered u hu hlive

/-- The bounds of R116 after a reset (R115). -/
theorem State.afterReset_requestsLawful (s : State) (baud : Baud) (cause : ResetCause) :
    (s.afterReset baud cause).RequestsLawful :=
  ⟨⟨Nat.zero_le _, .nil, nofun, Nat.le_refl 1, Nat.le_of_ble_eq_true rfl, Nat.zero_le _, .nil⟩,
    nofun, fun _ ht => (List.not_mem_nil ht).elim⟩

/-- Every move keeps the bounds of R116 and what they rest on. -/
theorem Move.requestsLawful {s t : State} (h : Move s t) (hs : s.RequestsLawful) :
    t.RequestsLawful := by
  obtain ⟨hbounded, hreq, hrostered⟩ := id hs
  cases h with
  | eased h =>
    refine hs.settle h.records h.nextId h.exchange fun u _ v _ huv _ hentry => ?_
    rwa [State.entry?, h.roster, huv.2.1]
  | staged | deferred | station => exact ⟨hbounded, hreq, hrostered⟩
  | committed => exact hs.applyRoster _
  | copied =>
    have hdropped : (s.onRoster fun m => { m with pendingCopy := none }).RequestsLawful :=
      ⟨hbounded, hreq, hrostered⟩
    exact hdropped.applyRoster _
  | submitted a hentry hroom => exact hs.submit hentry hroom
  | dropped id =>
    have hsub : (s.dropTxn id).requests.records.Sublist s.requests.records := List.filter_sublist
    have hawaited := (hsub.filter (·.isAwaiting)).map (·.address)
    refine ⟨hbounded.mono (hsub.map _) rfl hawaited, ?_, fun t ht => hrostered t (hsub.subset ht)⟩
    rw [State.reqInFlightLaw_iff] at hreq ⊢
    exact fun x hx hc hk => (hreq x hx hc hk).mono hawaited
  | answered x t hx hc hk ht hq ha => exact hs.answer hx hc hk ht hq ha
  | handed x h =>
    refine ⟨hbounded, ?_, hrostered⟩
    rw [State.reqInFlightLaw_iff] at hreq ⊢
    intro x' hx' hc hk
    obtain rfl := Option.some.inj hx'
    obtain hroom | ⟨y, hy, hyc, hyk, hya⟩ := h hc hk
    · exact hroom
    · exact hya ▸ hreq y hy hyc hyk
  | reset baud cause => exact s.afterReset_requestsLawful baud cause

/-- Settles O7: every move keeps the bounds of R116, the law of a REQ in flight and the roster entries of
live records. -/
theorem transactionBoundsStay : Obligations.TransactionBoundsStay :=
  fun _ _ hs hstep => step_keeps (fun _ _ h => h.requestsLawful) hs hstep

end Sys2Proof.Machine
end

section
/-! SUPPORT. Proofs: the roster requests, what they answer and what they leave (R7 to R16). -/

namespace Sys2Proof.Machine

/-- A request whose owner answers on the counted state with `t`, whose Host Port it leaves alone, is answered
on `t` (R176 to R180). -/
theorem State.request_answered {s t : State} {tag kind : Byte} (h : s.Accepting tag)
    {owner : State → Answer} {st : Status} {fields : List Byte} (ht : t.host = s.host)
    (ho : owner { s with host := s.host.counted } =
      ({ t with host := s.host.counted }, .of st fields)) :
    s.request tag kind owner = t.answered tag kind st fields := by
  rw [State.request_accepting h, ho, State.answered, HostPort.replied, ht]

/-- A request that its owner refuses changes nothing but the Host Port. -/
theorem State.request_refused {s : State} {tag kind : Byte} (h : s.Accepting tag)
    {owner : State → Answer} {st : Status}
    (ho : ∀ t : State, t.roster = s.roster → t.sweep = s.sweep → owner t = t.refuse st) :
    s.request tag kind owner = s.answered tag kind st [] :=
  State.request_answered h rfl (ho _ rfl rfl)

/-! ## STAGE_PUT (R7) -/

section
variable {s : State} {a : EntryArg} {e : RosterEntry}

/-- A legal entry is stored where there is room, or in its own place. -/
theorem takeStagePut_stored (he : StoresEntry a e)
    (hroom : (s.roster.staged.entry? e.address).isSome = true ∨ s.roster.staged.entries.length < 40) :
    takeStagePut a s =
      (s.onStaged fun r => { r with entries := insertEntry e r.entries }).ok
        (flagByte ((s.roster.staged.entry? e.address).isSome == Config.replacedFlagIsOne) ++
          bytes1 (insertEntry e s.roster.staged.entries).length) := by
  have hroom' : ((s.roster.staged.entry? e.address).isSome ||
      decide (s.roster.staged.entries.length < Config.maxStations)) = true := by
    rwa [Bool.or_eq_true, decide_eq_true_iff]
  unfold takeStagePut
  rw [checkEntry_eq_some.mpr he]
  exact if_pos hroom'

/-- A new address finds no room among 40 entries. -/
theorem takeStagePut_full (he : StoresEntry a e) (hnew : s.roster.staged.entry? e.address = none)
    (hfull : 40 ≤ s.roster.staged.entries.length) : takeStagePut a s = s.refuse .full := by
  have hfull' : ((s.roster.staged.entry? e.address).isSome ||
      decide (s.roster.staged.entries.length < Config.maxStations)) ≠ true := by
    rw [hnew, ne_eq, Bool.or_eq_true, decide_eq_true_iff]
    simpa [Config.maxStations] using hfull
  unfold takeStagePut
  rw [checkEntry_eq_some.mpr he]
  exact if_neg hfull'

theorem takeStagePut_refused (h : ∀ e, ¬ StoresEntry a e) : takeStagePut a s = s.refuse .badArg := by
  have hnone : checkEntry a = none :=
    Option.eq_none_iff_forall_ne_some.mpr fun e he => h e (checkEntry_eq_some.mp he)
  unfold takeStagePut
  rw [hnone]

end

/-- Settles O24: STAGE_PUT's check gives exactly a legal entry, which `insertEntry` puts in its place. -/
theorem stagePutStoresTheEntryInAddressOrder :
    Obligations.StagePutStoresTheEntryInAddressOrder := by
  intro tag a s h
  refine ⟨fun e he hroom => ⟨insertEntry e s.roster.staged.entries, ?_, ?_, fun hasc => ?_⟩,
    fun e he hnew hfull => ?_, fun hnot => ?_⟩
  · exact congrArg Host.Outcome.next
      (State.request_answered h rfl (takeStagePut_stored he hroom))
  · exact insertEntry_find? e _
  · rw [insertEntry_addresses]
    exact hasc.insertAddress
  · refine congrArg Host.Outcome.next (State.request_refused h fun t ht _ => ?_)
    exact takeStagePut_full he (ht ▸ hnew) (ht ▸ hfull)
  · exact congrArg Host.Outcome.next
      (State.request_refused h fun t _ _ => takeStagePut_refused hnot)

/-! ## STAGE_REMOVE, STAGE_CLEAR and STAGE_REVERT (R8, R10, R11) -/

theorem validAddress_false {a : Nat} (h : ¬ IsStation a) : validAddress a = false := by
  rw [← validAddress_iff, Bool.not_eq_true] at h
  exact h

section
variable {s : State} {a : Nat}

theorem takeStageRemove_badArg (h : ¬ IsStation a) : takeStageRemove a s = s.refuse .badArg := by
  unfold takeStageRemove
  rw [validAddress_false h]
  rfl

theorem takeStageRemove_notFound (h : IsStation a) (hnone : s.roster.staged.entry? a = none) :
    takeStageRemove a s = s.refuse .notFound := by
  unfold takeStageRemove
  rw [if_pos (validAddress_iff.mpr h), hnone]
  rfl

theorem takeStageRemove_removed (h : IsStation a)
    (hsome : (s.roster.staged.entry? a).isSome = true) :
    takeStageRemove a s =
      (s.onStaged fun r => { r with entries := r.entries.filter (·.address != a) }).ok
        (bytes1 (s.roster.staged.entries.filter (·.address != a)).length) := by
  unfold takeStageRemove
  rw [if_pos (validAddress_iff.mpr h), if_pos hsome]
  rfl

end

/-- Settles O25: STAGE_REMOVE by its three cases; STAGE_CLEAR and STAGE_REVERT have one. -/
theorem stagedEntriesRemovedClearedReverted : Obligations.StagedEntriesRemovedClearedReverted := by
  refine ⟨fun tag a s h => ⟨fun ha => ?_, fun ha hnone => ?_, fun ha hsome => ?_⟩,
    fun tag s h => ⟨?_, ?_⟩⟩
  · exact congrArg Host.Outcome.next
      (State.request_refused h fun t _ _ => takeStageRemove_badArg ha)
  · refine congrArg Host.Outcome.next (State.request_refused h fun t ht _ =>
      takeStageRemove_notFound ha ?_)
    rw [ht, Roster.entry?_eq_none]
    simpa using hnone
  · refine congrArg Host.Outcome.next (State.request_answered h rfl (takeStageRemove_removed ha ?_))
    rw [Roster.entry?_isSome]
    simpa using hsome
  · exact congrArg Host.Outcome.next (State.request_answered h rfl rfl)
  · exact congrArg Host.Outcome.next (State.request_answered h rfl rfl)

/-! ## STAGE_HEADER (R9) -/

/-- The six bytes of a roster header (section 12.2). -/
theorem Header.bytes_eq (h : Header) : h.bytes =
    [match h.speed with
      | .kbit500 => 0#8
      | .mbit1 => 1#8
      | .mbit2 => 2#8
      | .mbit4 => 3#8] ++
    bytes2 h.window ++ bytes1 h.repeats ++ bytes1 h.budget ++
    [match h.policy with
      | .auto => 0#8
      | .hold => 1#8
      | .halt => 2#8] := by
  obtain ⟨speed, window, repeats, budget, policy⟩ := h
  cases speed <;> cases policy <;> rfl

/-- Settles O26: STAGE_HEADER's check gives exactly the header set. -/
theorem stageHeaderSetsTheFieldsGiven : Obligations.StageHeaderSetsTheFieldsGiven := by
  refine ⟨Header.bytes_eq, fun tag a s h => ⟨fun new hnew => ?_, fun hnot => ?_⟩⟩
  · refine congrArg Host.Outcome.next (State.request_answered h rfl ?_)
    unfold takeStageHeader
    rw [checkHeader_eq_some.mpr hnew]
    rfl
  · refine congrArg Host.Outcome.next (State.request_refused h fun t ht _ => ?_)
    have hnone : checkHeader a t.roster.staged.header = none :=
      Option.eq_none_iff_forall_ne_some.mpr fun new hnew =>
        hnot new (checkHeader_eq_some.mp (ht ▸ hnew))
    unfold takeStageHeader
    rw [hnone]

/-! ## READ_ROSTER (R12, R13) -/

/-- The bytes of a roster entry (section 12.2). -/
theorem RosterEntry.bytes_eq (e : RosterEntry) : e.bytes =
    bytes1 e.address ++ bytes2 e.classCode ++ bytes1 e.inWidth ++ bytes1 e.outWidth ++
      bytes1 e.divisor ++ bytes1 e.missLimit ++
      bytes1 (e.fallback.code + (if e.startDisabled then 4 else 0) +
        (if e.label.isSome then 8 else 0)) ++
      bytes1 e.fallback.bytes.length ++ e.fallback.bytes ++
      (match e.label with
        | none => []
        | some l => bytes1 l.length ++ l) := by
  obtain ⟨address, classCode, inWidth, outWidth, divisor, missLimit, fallback, disabled, label⟩ := e
  cases disabled <;> cases label <;> simp [RosterEntry.bytes, runBytes]

section
variable {s : State} {src a : Nat} {r : Roster}

/-- The sources that name a roster (section 12.1). -/
theorem State.source_known (h : src = 0 ∧ r = s.roster.staged ∨ src = 1 ∧ r = s.roster.committed ∨
    src = 2 ∧ s.roster.pendingCopy = some r) : s.source src = .known (some r) := by
  obtain ⟨rfl, rfl⟩ | ⟨rfl, rfl⟩ | ⟨rfl, h⟩ := h
  · rfl
  · rfl
  · exact congrArg Source.known h

theorem State.source_unknown (h : 2 < src) : s.source src = .unknown := by
  unfold State.source
  split
  · omega
  · omega
  · omega
  · rfl

/-- A bad address or source is refused in both forms. -/
theorem takeReadRoster_badArg (h : ¬ IsStation a ∨ 2 < src) :
    takeReadRosterSingle src a s = s.refuse .badArg ∧
    takeReadRosterRun src a s = s.refuse .badArg := by
  unfold takeReadRosterSingle takeReadRosterRun
  by_cases ha : IsStation a
  · rw [if_pos (validAddress_iff.mpr ha), if_pos (validAddress_iff.mpr ha),
      State.source_unknown (h.resolve_left (not_not_intro ha))]
    exact ⟨rfl, rfl⟩
  · rw [validAddress_false ha]
    exact ⟨rfl, rfl⟩

/-- The pending copy is EMPTY in both forms where there is none. -/
theorem takeReadRoster_empty (ha : IsStation a) (h : s.roster.pendingCopy = none) :
    takeReadRosterSingle 2 a s = s.refuse .empty ∧ takeReadRosterRun 2 a s = s.refuse .empty := by
  have hsource : s.source 2 = .known none := congrArg Source.known h
  unfold takeReadRosterSingle takeReadRosterRun
  rw [if_pos (validAddress_iff.mpr ha), if_pos (validAddress_iff.mpr ha), hsource]
  exact ⟨rfl, rfl⟩

theorem takeReadRosterSingle_notFound (ha : IsStation a) (h : s.source src = .known (some r))
    (hnone : r.entry? a = none) : takeReadRosterSingle src a s = s.refuse .notFound := by
  unfold takeReadRosterSingle
  rw [if_pos (validAddress_iff.mpr ha), h]
  dsimp only
  rw [hnone]

theorem takeReadRosterSingle_ok (ha : IsStation a) (h : s.source src = .known (some r))
    {e : RosterEntry} (he : r.entry? a = some e) :
    takeReadRosterSingle src a s = s.ok (s.rosterFields src r ++ e.bytes) := by
  unfold takeReadRosterSingle
  rw [if_pos (validAddress_iff.mpr ha), h]
  dsimp only
  rw [he]

theorem takeReadRosterRun_eq (ha : IsStation a) (h : s.source src = .known (some r)) :
    takeReadRosterRun src a s =
      let head := s.rosterFields src r
      let run := runForm (247 - (head.length + 1))
        ((r.entries.filter (a ≤ ·.address)).map fun e => (e.address, e.bytes))
      s.ok (head ++ bytes1 r.entries.length ++ run.1 ++ bytes1 run.2) := by
  have hroom : listRoom (s.rosterFields src r ++ bytes1 r.entries.length).length =
      247 - ((s.rosterFields src r).length + 1) := by
    rw [List.length_append]
    rfl
  unfold takeReadRosterRun
  rw [if_pos (validAddress_iff.mpr ha), h]
  dsimp only
  rw [hroom]

end

/-- Settles O27: both forms by address, source and entry, and the layout of an entry. -/
theorem readRosterReturnsTheNamedRoster : Obligations.ReadRosterReturnsTheNamedRoster := by
  refine ⟨fun e => ?_, fun tag src a s h => ⟨fun hbad => ?_, ?_, fun r ha hsrc => ?_⟩⟩
  · refine (e.bytes_eq).trans ?_
    cases e.fallback <;> rfl
  · exact ⟨congrArg _ (State.request_refused h fun _ _ _ => (takeReadRoster_badArg hbad).1),
      congrArg _ (State.request_refused h fun _ _ _ => (takeReadRoster_badArg hbad).2)⟩
  · rintro ha rfl hnone
    exact ⟨congrArg _ (State.request_refused h fun _ ht _ => (takeReadRoster_empty ha (ht ▸ hnone)).1),
      congrArg _ (State.request_refused h fun _ ht _ => (takeReadRoster_empty ha (ht ▸ hnone)).2)⟩
  · have hsource (t : State) (ht : t.roster = s.roster) : t.source src = .known (some r) :=
      State.source_known (by rwa [ht])
    have hcounted := hsource { s with host := s.host.counted } rfl
    refine ⟨fun hnone => ?_, fun e he => ?_, ?_⟩
    · exact congrArg _ (State.request_refused h fun t ht _ =>
        takeReadRosterSingle_notFound ha (hsource t ht) hnone)
    · exact congrArg _ (State.request_answered h rfl (takeReadRosterSingle_ok ha hcounted he))
    · exact congrArg _ (State.request_answered h rfl (takeReadRosterRun_eq ha hcounted))

/-! ## The run form (R13, R192) -/

/-- What fits is an initial segment of whole elements, the longest one within the room. -/
theorem fitPrefix_spec (room : Nat) (l : List (List Byte)) :
    ∃ k, k ≤ l.length ∧ fitPrefix room l = l.take k ∧ (l.take k).flatten.length ≤ room ∧
      (k < l.length → room < (l.take (k + 1)).flatten.length) := by
  induction l generalizing room with
  | nil => exact ⟨0, Nat.le_refl _, rfl, Nat.zero_le _, fun h => absurd h (Nat.lt_irrefl _)⟩
  | cons x l ih =>
    unfold fitPrefix
    by_cases hx : x.length ≤ room
    · obtain ⟨k, hk, hfit, hle, hlt⟩ := ih (room - x.length)
      refine ⟨k + 1, Nat.succ_le_succ hk, by rw [if_pos hx, hfit, List.take_succ_cons], ?_,
        fun hk' => ?_⟩
      · rw [List.take_succ_cons, List.flatten_cons, List.length_append]
        omega
      · have := hlt (Nat.lt_of_succ_lt_succ hk')
        rw [List.take_succ_cons, List.flatten_cons, List.length_append]
        omega
    · refine ⟨0, Nat.zero_le _, if_neg hx, Nat.zero_le _, fun _ => ?_⟩
      simpa using hx

/-- Settles O28: the run form's list is the longest initial segment that fits, and the continuation its
successor. -/
theorem runFormTakesAsManyWholeElementsAsFit : Obligations.RunFormTakesAsManyWholeElementsAsFit := by
  intro room l
  obtain ⟨k, hk, hfit, hle, hlt⟩ := fitPrefix_spec room (l.map (·.2))
  rw [List.length_map] at hk hlt
  have hlen : (l.take k).length = k := List.length_take_of_le hk
  have hrun : runForm room l = (bytes1 k ++ ((l.take k).map (·.2)).flatten,
      ((l.drop k).head?.map (·.1)).getD 0) := by
    unfold runForm
    rw [hfit, ← List.map_take]
    dsimp only
    rw [listBytes, List.length_map, hlen]
  refine ⟨k, hk, ?_, by rwa [List.map_take], by rwa [List.map_take]⟩
  rw [hrun]
  cases l.drop k <;> rfl

/-! ## COMMIT (R14 to R16) -/

section
variable {s : State}

/-- COMMIT of a roster above the images' sums is refused with its fields (R15). -/
theorem takeCommit_invalid (h : ¬ s.roster.staged.Fits) :
    takeCommit s = (s, .of .invalidRoster s.commitFields) := by
  rw [← Roster.fits_iff] at h
  unfold takeCommit
  rw [if_neg h]

/-- COMMIT in SWEEPING keeps the pending copy (R16). -/
theorem takeCommit_deferred (h : s.roster.staged.Fits) (hline : s.sweep.line = .sweeping) :
    takeCommit s = (s.onRoster fun m => { m with pendingCopy := some m.staged },
      .of .pending (s.commitFields ++ flagByte s.roster.pendingCopy.isSome)) := by
  rw [← Roster.fits_iff] at h
  unfold takeCommit
  rw [if_pos h, if_pos hline]

/-- COMMIT elsewhere applies the staged roster (R15). -/
theorem takeCommit_applied (h : s.roster.staged.Fits) (hline : s.sweep.line ≠ .sweeping) :
    takeCommit s = (s.applyRoster s.roster.staged).ok (s.applyRoster s.roster.staged).commitFields := by
  rw [← Roster.fits_iff] at h
  unfold takeCommit
  rw [if_pos h, if_neg hline]

end

/-- Settles O29: the width sums refuse, and SWEEPING defers. -/
theorem commitRefusedOrDeferred : Obligations.CommitRefusedOrDeferred := by
  intro tag s h
  refine ⟨fun hsum => ?_, fun hin hout hline => ?_⟩
  · have hnot : ¬ s.roster.staged.Fits := fun ⟨hin, hout⟩ => by
      rcases hsum with hsum | hsum
      · exact absurd hin (Nat.not_le.mpr hsum)
      · exact absurd hout (Nat.not_le.mpr hsum)
    exact congrArg Host.Outcome.next (State.request_answered h rfl (takeCommit_invalid hnot))
  · exact congrArg Host.Outcome.next
      (State.request_answered h rfl (takeCommit_deferred ⟨hin, hout⟩ hline))

/-- An application does not look at the Host Port, nor change it. -/
theorem State.Applied.ofHost {s t : State} {new : Roster} {p q : HostPort}
    (h : State.Applied { s with host := p } new t) : State.Applied s new { t with host := q } := h

/-- Settles O30: outside SWEEPING a COMMIT that fits is `State.applyRoster`, which is `State.Applied`. -/
theorem commitAppliesTheStagedRoster : Obligations.CommitAppliesTheStagedRoster := by
  intro tag s h hmatch hlive hfits hline
  have happlied : State.Applied { s with host := s.host.counted } s.roster.staged
      (State.applyRoster s.roster.staged { s with host := s.host.counted }) :=
    State.applied_applyRoster (s := { s with host := s.host.counted }) hmatch hlive s.roster.staged
  refine ⟨_, congrArg Host.Outcome.next (State.request_accepting h 0x16#8 takeCommit), ?_, ?_⟩
  · rw [takeCommit_applied (s := { s with host := s.host.counted }) hfits hline]
    exact happlied.ofHost
  · rw [takeCommit_applied (s := { s with host := s.host.counted }) hfits hline]
    simp only [State.ok, State.commitFields, State.stagedCount, State.applyRoster_roster,
      State.applyRoster_host]
    rfl

end Sys2Proof.Machine
end

section
/-! SUPPORT. Proofs: STOP_SWEEP and the end of a wait (R57, R58, R61, R66, R67), and the state after
reset. -/

namespace Sys2Proof.Machine

/-! ## The pending copy (R17, R66) -/

theorem State.applyPending_of_none {s : State} (h : s.roster.pendingCopy = none) :
    s.applyPending = s := by
  rw [State.applyPending, h]

theorem State.applyPending_of_some {s : State} {r : Roster} (h : s.roster.pendingCopy = some r) :
    s.applyPending = (s.onRoster fun m => { m with pendingCopy := none }).applyRoster r := by
  rw [State.applyPending, h]

/-- Applying the pending copy is what the claims say it is. -/
theorem State.copyApplied_applyPending {s : State} (hs : s.RecordsMatchRoster)
    (hl : s.LiveRecordsRostered) : s.CopyApplied s.applyPending := by
  unfold State.CopyApplied
  split
  · next h => exact State.applyPending_of_none h
  · next r h =>
    have hdropped := State.applied_applyRoster
      (s := s.onRoster fun m => { m with pendingCopy := none }) hs hl r
    rw [State.applyPending_of_some h]
    exact ⟨hdropped, State.applyRoster_host ..⟩

/-- What an application keeps, and the copy's own application keeps with it. -/
theorem State.applyPending_keeps {α : Type} (π : State → α)
    (hdrop : ∀ s : State, π (s.onRoster fun m => { m with pendingCopy := none }) = π s)
    (happly : ∀ (s : State) new, π (s.applyRoster new) = π s) (s : State) : π s.applyPending = π s := by
  cases h : s.roster.pendingCopy with
  | none => rw [State.applyPending_of_none h]
  | some r => rw [State.applyPending_of_some h, happly, hdrop]

section
variable (s : State)

@[simp] theorem State.applyPending_sweep : s.applyPending.sweep = s.sweep :=
  State.applyPending_keeps (·.sweep) (fun _ => rfl) (fun s new => State.applyRoster_sweep new s) s
@[simp] theorem State.applyPending_engine : s.applyPending.engine = s.engine :=
  State.applyPending_keeps (·.engine) (fun _ => rfl) (fun s new => State.applyRoster_engine new s) s
@[simp] theorem State.applyPending_host : s.applyPending.host = s.host :=
  State.applyPending_keeps (·.host) (fun _ => rfl) (fun s new => State.applyRoster_host new s) s
@[simp] theorem State.applyPending_now : s.applyPending.now = s.now :=
  State.applyPending_keeps (·.now) (fun _ => rfl) (fun s new => State.applyRoster_now new s) s

end

/-- The roster after the copy is applied (R17, R23). -/
theorem State.applyPending_some {s : State} {r : Roster} (h : s.roster.pendingCopy = some r) :
    s.applyPending.roster = { s.roster with committed := r, pendingCopy := none,
                                            generation := s.roster.generation + 1 } := by
  unfold State.applyPending
  rw [h]
  exact State.applyRoster_roster ..

theorem State.applyPending_none {s : State} (h : s.roster.pendingCopy = none) :
    s.applyPending = s := by
  unfold State.applyPending
  rw [h]

/-- No copy is pending once it has been applied (R17). -/
theorem State.applyPending_pendingCopy (s : State) : s.applyPending.roster.pendingCopy = none := by
  cases h : s.roster.pendingCopy with
  | none => rw [State.applyPending_none h, h]
  | some r => rw [State.applyPending_some h]

/-! ## STOP_SWEEP (R57) -/

/-- The controller once the line has gone to READY (R57, R58). -/
theorem State.goReady_sweep (s : State) :
    s.goReady.sweep = { s.sweep with line := .ready, closing := none, stop := false, phase := .idle,
                                     pacing := none, cut := false } := rfl

section
variable {s : State}

theorem takeStopSweep_refused (h : s.sweep.line ≠ .sweeping ∨ s.sweep.closing ≠ none) :
    takeStopSweep s = s.refuse .wrongState := by
  refine if_neg fun hboth => ?_
  rw [Bool.and_eq_true, decide_eq_true_iff, Option.isNone_iff_eq_none] at hboth
  exact h.elim (· hboth.1) (· hboth.2)

theorem takeStopSweep_sweep (hl : s.sweep.line = .sweeping) (hc : s.sweep.closing = none)
    (hp : s.sweep.phase ≠ .wait) :
    takeStopSweep s = (s.onSweep fun c => { c with stop := true }).ok (wordBytes s.sweep.number) := by
  unfold takeStopSweep
  rw [if_pos (by simp [hl, hc])]
  exact if_neg hp

theorem takeStopSweep_wait (hl : s.sweep.line = .sweeping) (hc : s.sweep.closing = none)
    (hp : s.sweep.phase = .wait) :
    takeStopSweep s = s.applyPending.goReady.ok (wordBytes s.sweep.number) := by
  unfold takeStopSweep
  rw [if_pos (by simp [hl, hc])]
  exact if_pos hp

end

/-! ## PACED_WAIT_END (R66, R67) -/

/-- Where a station stands next in the claims' terms, the Cyclic phase finds its entry (R62). -/
theorem State.nextCyclic_of_servesNext {s : State} {e : RosterEntry} {r : Station}
    (h : s.ServesNext s.sweep.number s.sweep.cursor e r) : s.nextCyclic = some e := by
  obtain ⟨hasc, he, hcursor, hdue, hr, hserved, hfirst⟩ := h
  have hserves (t : Station) : t.state.servedCyclic = true ↔
      t.state = .pending ∨ t.state = .online ∨ t.state = .faltering := by
    cases t.state <;> simp [StationState.servedCyclic]
  obtain ⟨before, after, hsplit⟩ := List.append_of_mem he
  unfold State.nextCyclic
  rw [List.find?_eq_some_iff_append]
  refine ⟨?_, before, after, hsplit, fun f hf => ?_⟩
  · simp [hcursor, RosterEntry.isDue, hdue, hr, (hserves r).mpr hserved]
  · have hbelow : f.address < e.address := by
      rw [hsplit, List.map_append, List.map_cons, Ascending, List.pairwise_append] at hasc
      obtain ⟨-, -, hlt⟩ := hasc
      exact hlt _ (List.mem_map_of_mem hf) _ List.mem_cons_self
    have hmem : f ∈ s.roster.committed.entries := hsplit ▸ List.mem_append_left _ hf
    refine (Bool.not_eq_true' _).mpr (Bool.eq_false_iff.mpr fun hfound => ?_)
    simp only [RosterEntry.isDue, Bool.and_eq_true, decide_eq_true_eq, beq_iff_eq] at hfound
    obtain ⟨⟨hlt, hdue⟩, hst⟩ := hfound
    cases ht : s.station? f.address with
    | none => rw [ht] at hst; cases hst
    | some t =>
      rw [ht] at hst
      exact hfirst f hmem hlt hbelow hdue t ht ((hserves t).mp hst)

/-- The exchange handed over is the one in flight. -/
theorem State.hand_exchange (s : State) (x : Exchange) : (s.hand x).engine.exchange = some x := by
  unfold State.hand
  dsimp only
  split <;> rfl

/-- A station's cyclic exchange goes out to its address, and the phase, number and start stand (R62). -/
theorem State.handCyclic_spec (s : State) (e : RosterEntry) :
    (∃ x, (s.handCyclic e).engine.exchange = some x ∧ x.address = e.address) ∧
    (s.handCyclic e).sweep = { s.sweep with cursor := e.address } ∧
    (s.handCyclic e).now = s.now ∧ (s.handCyclic e).image = s.image := by
  unfold State.handCyclic
  dsimp only
  split
  · refine ⟨⟨_, State.hand_exchange _ _, rfl⟩, ?_, ?_, ?_⟩ <;> simp [State.onStation]
  · refine ⟨⟨_, State.hand_exchange _ _, rfl⟩, ?_, ?_, ?_⟩ <;> simp

/-- A Cyclic phase with a station to serve sends its exchange and does not end (R62). -/
theorem State.runCyclic_of_next {s : State} (hp : s.sweep.phase = .cyclic) {e : RosterEntry}
    (h : s.nextCyclic = some e) : s.runCyclic = s.handCyclic e := by
  have hcyclic : s.cyclicPhase = s.handCyclic e := by
    unfold State.cyclicPhase
    rw [h]
  obtain ⟨-, hsweep, -, -⟩ := s.handCyclic_spec e
  unfold State.runCyclic State.finish
  rw [hcyclic, hsweep, hp]
  rfl

/-- A sweep that has latched, with a station to serve, sends to it in the Cyclic phase (R61, R62). -/
theorem State.begun_of_servesNext {u : State} {e : RosterEntry} {r : Station}
    (h : u.ServesNext (u.sweep.number + 1) 0 e r) :
    let t := u.afterLatch.runCyclic.pump
    t.now = u.now ∧ t.sweep.number = u.sweep.number + 1 ∧ t.sweep.phase = .cyclic ∧
      (∃ x, t.engine.exchange = some x ∧ x.address = e.address) ∧
      t.sweep.startedAt = t.now ∧ t.image = u.afterLatch.image := by
  have hnext : u.afterLatch.nextCyclic = some e := State.nextCyclic_of_servesNext (r := r) h
  obtain ⟨hexchange, hsweep, hnow, himage⟩ := u.afterLatch.handCyclic_spec e
  dsimp only
  rw [State.runCyclic_of_next rfl hnext, State.pump_now, State.pump_sweep, State.pump_engine,
    State.pump_image, hsweep, hnow, himage]
  exact ⟨rfl, rfl, rfl, hexchange, rfl, rfl⟩

theorem State.rosterEmpty_iff {s : State} :
    s.rosterEmpty = true ↔ s.roster.committed.entries = [] :=
  List.isEmpty_iff

/-- The end of a wait: the clock carried on, the copy applied, and the next sweep or READY (R66, R67). -/
theorem exec_pacedWaitEnd {s : State} {p : Nat} {q : Pacing} (hp : s.sweep.phase = .wait)
    (hplan : s.sweep.plan = .paced p) (hq : s.sweep.pacing = some q) :
    exec .pacedWaitEnd s = .next (State.pump (State.beginUnlessEmpty
      (State.applyPending { s with now := max s.now (q.base + q.count * (p * 2400)) }))) := by
  have hdue : s.sweep.waitDue = some (q.base + q.count * (p * 2400)) := by
    unfold SweepController.waitDue
    rw [hplan, hq]
    rfl
  dsimp only [exec]
  unfold execPacedWaitEnd
  rw [hp, hdue]
  rfl

theorem exec_pacedWaitEnd_none {s : State} (hp : s.sweep.phase ≠ .wait) :
    exec .pacedWaitEnd s = .next s := by
  dsimp only [exec]
  unfold execPacedWaitEnd
  split
  · next h _ => exact absurd h hp
  · rfl

/-- Settles O34: STOP_SWEEP by its cases, and the end of a wait through the copy's application, the Latch
and the Cyclic phase's first exchange. -/
theorem stopSweepAndTheEndOfAWait : Obligations.StopSweepAndTheEndOfAWait := by
  intro tag s
  refine ⟨fun h hbad => ?_, fun h hl hc hp => ?_, fun h hl hc hp => ?_,
    fun p q hp hplan hq hmatch hlive => ?_, exec_pacedWaitEnd_none⟩
  · refine congrArg Host.Outcome.next (State.request_refused h fun t _ ht => ?_)
    exact takeStopSweep_refused (by rwa [ht])
  · exact congrArg Host.Outcome.next (State.request_answered h rfl (takeStopSweep_sweep hl hc hp))
  · refine ⟨_, congrArg Host.Outcome.next (State.request_accepting h 0x23#8 takeStopSweep), ?_⟩
    rw [takeStopSweep_wait (s := { s with host := s.host.counted }) hl hc hp]
    dsimp only [State.ok]
    rw [State.goReady_sweep, State.applyPending_sweep, State.goReady_roster, State.goReady_engine,
      State.applyPending_engine, State.goReady_stations, State.goReady_image, State.goReady_host,
      State.applyPending_host]
    refine ⟨rfl, rfl, rfl, rfl, rfl, rfl, rfl, State.applyPending_pendingCopy _, fun r hr => ?_,
      fun hnone => ?_⟩
    · rw [State.applyPending_some (s := { s with host := s.host.counted }) hr]
      exact ⟨rfl, rfl⟩
    · rw [State.applyPending_none (s := { s with host := s.host.counted }) hnone]
      exact ⟨rfl, rfl, rfl⟩
  · let later : State := { s with now := max s.now (q.base + q.count * (p * 2400)) }
    have hend := exec_pacedWaitEnd hp hplan hq
    refine ⟨later.applyPending, State.copyApplied_applyPending hmatch hlive, fun hempty => ?_,
      fun hentries => ?_⟩
    · rw [hend, State.beginUnlessEmpty, if_pos (State.rosterEmpty_iff.mpr hempty)]
      rfl
    · have hbegin : exec .pacedWaitEnd s = .next (State.pump later.applyPending.afterLatch.runCyclic) := by
        rw [hend, State.beginUnlessEmpty, if_neg (hentries ∘ State.rosterEmpty_iff.mp)]
        rfl
      have hsweep : later.applyPending.sweep = s.sweep := State.applyPending_sweep later
      refine ⟨hbegin, fun e r hnext => ⟨_, hbegin, ?_⟩⟩
      rw [← hsweep] at hnext ⊢
      obtain ⟨hnow, hrest⟩ := State.begun_of_servesNext hnext
      exact ⟨hnow.trans (State.applyPending_now later), hrest⟩

/-- Settles O4: every value is the one written in the model's reset, and the laws hold of empty blocks. -/
theorem resetStateAsSpecifiedAndLawful : Obligations.ResetStateAsSpecifiedAndLawful := by
  have hstations : State.reset.StationsLawful :=
    State.afterReset_stationsLawful State.reset .b115200 .power
  have hrequests : State.reset.RequestsLawful :=
    State.afterReset_requestsLawful State.reset .b115200 .power
  have hline : State.reset.LineDrivenLawfully :=
    ⟨⟨rfl, fun _ => rfl, nofun⟩, nofun, nofun, nofun, nofun⟩
  refine ⟨⟨rfl, rfl, rfl, rfl, rfl⟩, rfl, ⟨rfl, rfl, rfl, rfl, rfl, rfl, rfl, rfl, rfl, rfl, rfl⟩,
    ⟨rfl, rfl, rfl, rfl, rfl, rfl⟩, ⟨rfl, rfl, rfl, rfl⟩, rfl, rfl, rfl,
    ⟨rfl, rfl, rfl, rfl, rfl⟩, ⟨rfl, rfl, rfl, rfl, rfl, rfl, rfl⟩, ⟨rfl, rfl⟩, hstations,
    ⟨hstations.1, hstations.2.1, nofun⟩, hrequests, ⟨hstations.1, hstations.2.1, nofun, .nil⟩,
    ⟨Nat.zero_le _, .nil, rfl⟩, ?_, hline, ⟨hline, ?_, nofun, nofun⟩, ?_, ⟨rfl, .inl rfl⟩⟩
  · exact ⟨Nat.zero_le _, .nil, nofun, by unfold ClassTable.Legal; decide, Nat.zero_le _, rfl⟩
  · exact ⟨Nat.zero_le _, .nil, nofun, by decide⟩
  · exact ⟨Nat.zero_le _, Nat.zero_le _, by decide, by unfold RxState.Framing; decide⟩

end Sys2Proof.Machine
end

section
/-! SUPPORT. Proofs: the station requests, what they answer and what they leave (R114 to R123, R132, R133). -/

namespace Sys2Proof.Machine

/-! ## SUBMIT (R117, R118) -/

theorem submitOk_iff {a : SubmitArg} : submitOk a = true ↔
    IsStation a.address ∧ a.service ≤ 255 ∧ a.data.length ≤ 64 ∧ 10 ≤ a.deadline ∧
      a.deadline ≤ 60000 := by
  simp only [submitOk, Bool.and_eq_true, decide_eq_true_iff, validAddress_iff]
  constructor
  · rintro ⟨⟨⟨⟨haddress, hdata⟩, hmin⟩, hmax⟩, hservice⟩
    exact ⟨haddress, hservice, hdata, hmin, hmax⟩
  · rintro ⟨haddress, hservice, hdata, hmin, hmax⟩
    exact ⟨⟨⟨⟨haddress, hdata⟩, hmin⟩, hmax⟩, hservice⟩

/-- Where an id is free, the one given is the first free one from next id on (R118). -/
theorem RequestQueue.freeId_first {q : RequestQueue} (h : q.records.length < 255) :
    ∃ k, q.freeId = (q.nextId - 1 + k) % 255 + 1 ∧
      ∀ j < k, (q.nextId - 1 + j) % 255 + 1 ∈ q.records.map (·.id) := by
  obtain ⟨h1, h255, hfree⟩ := RequestQueue.freeId_spec h
  have hsome : ((idsFrom q.nextId).find? fun id => !(q.records.any (·.id == id))).isSome = true :=
    List.find?_isSome.mpr ⟨q.freeId, mem_idsFrom h1 h255, by simpa using hfree⟩
  obtain ⟨id, hid⟩ := Option.isSome_iff_exists.mp hsome
  have hfound : q.freeId = id := by rw [RequestQueue.freeId, hid]; rfl
  obtain ⟨-, k, hk, hat, hbefore⟩ := List.find?_eq_some_iff_getElem.mp hid
  refine ⟨k, by rw [hfound, ← hat]; simp [idsFrom], fun j hj => ?_⟩
  simpa [idsFrom] using hbefore j hj

section
variable {s : State} {a : SubmitArg}

theorem takeSubmit_badArg (h : submitOk a ≠ true) : takeSubmit a s = s.refuse .badArg := by
  unfold takeSubmit
  rw [if_neg h]

theorem takeSubmit_noStation (h : submitOk a = true) (hentry : s.entry? a.address = none) :
    takeSubmit a s = s.refuse .noStation := by
  unfold takeSubmit
  rw [if_pos h, hentry]
  rfl

theorem takeSubmit_full (h : submitOk a = true) (hentry : s.entry? a.address ≠ none)
    (hfull : 24 ≤ s.requests.records.length) : takeSubmit a s = s.refuse .full := by
  have hfull' : ¬ s.requests.records.length < Config.maxRecords := Nat.not_lt.mpr hfull
  unfold takeSubmit
  rw [if_pos h, if_pos (Option.isSome_iff_ne_none.mpr hentry), if_neg hfull']

theorem takeSubmit_accepted (h : submitOk a = true) (hentry : s.entry? a.address ≠ none)
    (hroom : s.requests.records.length < 24) :
    takeSubmit a s = (s.accept a).ok (bytes1 s.requests.freeId ++
      bytes1 (s.requests.records.length + 1) ++ bytes1 s.requests.awaiting) := by
  have hroom' : s.requests.records.length < Config.maxRecords := hroom
  have hlength : (s.accept a).requests.records.length = s.requests.records.length + 1 :=
    List.length_append
  have hawaiting : (s.accept a).requests.awaiting = s.requests.awaiting := by
    change (List.filter _ (_ ++ [_])).length = _
    rw [List.filter_append]
    exact congrArg List.length (List.append_nil _)
  unfold takeSubmit
  rw [if_pos h, if_pos (Option.isSome_iff_ne_none.mpr hentry), if_pos hroom']
  dsimp only
  rw [hlength, hawaiting]

end

/-- Settles O44: SUBMIT's checks in their order, and the first free id from next id on. -/
theorem submitAppendsAQueuedRecord : Obligations.SubmitAppendsAQueuedRecord := by
  intro tag a s h _
  refine ⟨fun hbad => ?_, fun hgood hentry => ?_, fun hgood hentry hfull => ?_,
    fun hgood hentry hroom => ?_⟩
  · exact congrArg Host.Outcome.next
      (State.request_refused h fun _ _ _ => takeSubmit_badArg (hbad ∘ submitOk_iff.mp))
  · exact congrArg Host.Outcome.next
      (State.request_answered h rfl (takeSubmit_noStation (submitOk_iff.mpr hgood) hentry))
  · exact congrArg Host.Outcome.next
      (State.request_answered h rfl (takeSubmit_full (submitOk_iff.mpr hgood) hentry hfull))
  · have hlength : s.requests.records.length < 255 := Nat.lt_trans hroom (by decide)
    obtain ⟨-, -, hfree⟩ := RequestQueue.freeId_spec hlength
    obtain ⟨k, hk, hbefore⟩ := RequestQueue.freeId_first hlength
    rw [List.mem_map, hk] at hfree
    refine ⟨k, hfree, fun j hj => List.mem_map.mp (hbefore j hj), ?_⟩
    dsimp only
    rw [← hk]
    exact congrArg Host.Outcome.next
      (State.request_answered h rfl (takeSubmit_accepted (submitOk_iff.mpr hgood) hentry hroom))

/-! ## Requests that name one record (R119, R121 to R123) -/

section
variable {s : State} {tag kind : Byte} {id : Nat} {owner : Txn → State → Answer}

/-- Id 0 is refused before the owner is asked. -/
theorem State.request_withTxn_badArg (h : s.Accepting tag) (hid : id = 0) :
    s.request tag kind (State.withTxn id owner) = s.answered tag kind .badArg [] :=
  State.request_refused h fun _ _ _ => if_pos hid

/-- So is an id that no record holds. -/
theorem State.request_withTxn_notFound (h : s.Accepting tag) (hid : id ≠ 0) (hnone : s.txn? id = none) :
    s.request tag kind (State.withTxn id owner) = s.answered tag kind .notFound [] := by
  refine State.request_answered h rfl ?_
  have hnone' : State.txn? { s with host := s.host.counted } id = none := hnone
  unfold State.withTxn
  rw [if_neg hid, hnone']
  rfl

/-- Else the owner answers on the record. -/
theorem State.request_withTxn_found {t : Txn} (h : s.Accepting tag) (hid : id ≠ 0)
    (ht : s.txn? id = some t) {u : State} {st : Status} {fields : List Byte} (hu : u.host = s.host)
    (ho : owner t { s with host := s.host.counted } =
      ({ u with host := s.host.counted }, .of st fields)) :
    s.request tag kind (State.withTxn id owner) = u.answered tag kind st fields := by
  refine State.request_answered h hu ?_
  have ht' : State.txn? { s with host := s.host.counted } id = some t := ht
  unfold State.withTxn
  rw [if_neg hid, ht']
  exact ho

end

theorem Txn.live_of_done {t : Txn} {e : Ending} (h : t.state = .done e) : t.live = false := by
  rw [Txn.live, h]

/-! ## The bytes of a record (R114, R192) -/

/-- The byte of a result code (R114). -/
theorem ResultCode.bytes1_code (c : ResultCode) : bytes1 c.code =
    [match c with
      | .ok => 1#8
      | .stationError => 2#8
      | .refused => 3#8
      | .timedOut => 4#8
      | .stationDown => 5#8
      | .stationRemoved => 6#8
      | .cancelled => 7#8
      | .lineDown => 8#8] := by
  cases c <;> rfl

/-- A number that may be absent is a presence byte and a byte, 0 when absent (R192). -/
theorem optNumber_eq (o : Option Nat) : optNumber o =
    match o with
    | none => [0#8, 0#8]
    | some d => [1#8] ++ bytes1 d := by
  cases o <;> rfl

/-- A run of bytes that may be absent is its length and its bytes behind the presence byte (R192). -/
theorem optRun_eq (o : Option (List Byte)) : optRun o =
    match o.map fun d => bytes1 d.length ++ d with
    | none => [0#8]
    | some l => [1#8] ++ l := by
  cases o <;> rfl

/-- A live record has its time remaining, and nothing of an ending. -/
theorem Txn.bytes_of_live {t : Txn} (h : t.live = true) (now : Nat) : t.bytes now =
    bytes1 t.id ++ bytes1 t.address ++ bytes1 t.service ++ bytes1 t.data.length ++ t.data ++
      bytes2 t.deadline ++ ([1#8] ++ bytes2 (msLeft now t.due)) ++ bytes1 t.state.code ++
      [t.attempts] ++ [0xFF#8, 0#8, 0#8] ++ [0#8] ++ [0#8] := by
  have hending : t.state.ending? = none := by
    obtain hstate | hstate := Txn.live_iff.mp h <;> rw [hstate] <;> rfl
  simp [Txn.bytes, Txn.remaining?, runBytes, opt2, optByte, optNumber, optRun, opt4, h, hending]

/-- A DONE record has its ending, and no time remaining. -/
theorem Txn.bytes_of_done {t : Txn} {e : Ending} (h : t.state = .done e) (now : Nat) : t.bytes now =
    bytes1 t.id ++ bytes1 t.address ++ bytes1 t.service ++ bytes1 t.data.length ++ t.data ++
      bytes2 t.deadline ++ [0#8] ++ [2#8] ++ [t.attempts] ++
      (bytes1 e.code.code ++ optNumber e.detail) ++ optRun e.data ++
      ([1#8] ++ bytes4 e.sweep.toNat) := by
  simp [Txn.bytes, Txn.remaining?, Txn.live_of_done h, h, TxnState.ending?, TxnState.code, runBytes,
    opt2, optByte, opt4, bytes1]

/-- QUERY_REQUEST's mark: a flag, absent for a removed station (R119). -/
theorem State.markField_bytes (s : State) (a : Nat) : optByte (s.markField a) =
    if (s.entry? a).isSome then flagByte (s.requests.marks.contains a) else [0xFF#8] := by
  unfold State.markField
  cases s.entry? a <;> rfl

/-- What LIST_REQUESTS gives of a record: the result code is absent until it is DONE (R120). -/
theorem Txn.brief_eq (t : Txn) : t.brief =
    bytes1 t.id ++ bytes1 t.state.code ++ bytes1 t.address ++ (match t.state with
      | .done e => bytes1 e.code.code
      | .queued => [0xFF#8]
      | .awaiting => [0xFF#8]) := by
  unfold Txn.brief
  cases t.state <;> rfl

/-- Settles O45: a record's bytes by its state, and each request by what its id names. -/
theorem transactionsReadAndCollected : Obligations.TransactionsReadAndCollected := by
  refine ⟨fun t now => ?_, fun tag id s h => ⟨fun hid => ?_, fun hid hnone => ?_,
    fun t hid ht => ?_, ?_⟩, fun tag id s h => ⟨fun hid => ?_, fun hid hnone => ?_,
    fun t hid ht hlive => ?_, fun t e hid ht hdone => ?_⟩⟩
  · dsimp only
    cases hstate : t.state with
    | queued =>
      rw [Txn.bytes_of_live (Txn.live_iff.mpr (.inl hstate)), hstate]
      rfl
    | awaiting =>
      rw [Txn.bytes_of_live (Txn.live_iff.mpr (.inr hstate)), hstate]
      rfl
    | done e =>
      rw [Txn.bytes_of_done hstate, ResultCode.bytes1_code, optNumber_eq, optRun_eq]
      rfl
  · exact congrArg Host.Outcome.next (State.request_withTxn_badArg h hid)
  · exact congrArg Host.Outcome.next (State.request_withTxn_notFound h hid hnone)
  · rw [← s.markField_bytes]
    exact congrArg Host.Outcome.next (State.request_withTxn_found h hid ht rfl rfl)
  · refine congrArg Host.Outcome.next (State.request_answered h rfl ?_)
    unfold takeListRequests
    rw [funext Txn.brief_eq]
    rfl
  · exact ⟨congrArg Host.Outcome.next (State.request_withTxn_badArg h hid),
      congrArg Host.Outcome.next (State.request_withTxn_badArg h hid)⟩
  · exact ⟨congrArg Host.Outcome.next (State.request_withTxn_notFound h hid hnone),
      congrArg Host.Outcome.next (State.request_withTxn_notFound h hid hnone)⟩
  · have hlive := Txn.live_iff.mpr hlive
    exact ⟨congrArg Host.Outcome.next (State.request_withTxn_found h hid ht rfl (if_pos hlive)),
      congrArg Host.Outcome.next (State.request_withTxn_found h hid ht rfl (if_pos hlive))⟩
  · have hlive : ¬ t.live = true := Bool.eq_false_iff.mp (Txn.live_of_done hdone)
    exact ⟨congrArg Host.Outcome.next (State.request_withTxn_found h hid ht rfl (if_neg hlive)),
      congrArg Host.Outcome.next (State.request_withTxn_found h hid ht rfl (if_neg hlive))⟩

/-! ## CANCEL and the deadlines (R123, R132, R133) -/

theorem State.txn?_some {s : State} {id : Nat} {t : Txn} (h : s.txn? id = some t) :
    t ∈ s.requests.records ∧ t.id = id :=
  ⟨List.mem_of_find?_eq_some h, by simpa using List.find?_some h⟩

/-- The end of a live record's deadline: the clock carried on, the record ended (R132, log 2). -/
theorem exec_deadlineExpiry_live {s : State} {id : Nat} {t : Txn} (ht : s.txn? id = some t)
    (hlive : t.live = true) :
    exec (.deadlineExpiry id) s = .next (((s.at t.due).endTxn t .timedOut none none).pump) := by
  have hfilter : (s.txn? id).filter (·.live) = some t := by
    rw [ht]
    exact if_pos hlive
  dsimp only [exec]
  unfold execDeadlineExpiry
  rw [hfilter]

/-- No live record of the id, no deadline of it (R133, log 3). -/
theorem exec_deadlineExpiry_none {s : State} {id : Nat}
    (h : ∀ t, s.txn? id = some t → t.live = false) : exec (.deadlineExpiry id) s = .next s := by
  have hfilter : (s.txn? id).filter (·.live) = none :=
    Option.filter_eq_none_iff.mpr fun t ht => Bool.eq_false_iff.mp (h t ht)
  dsimp only [exec]
  unfold execDeadlineExpiry
  rw [hfilter]

/-- Settles O46: both go through `State.endTxn` for a live record, and leave any other alone. -/
theorem cancelAndDeadlineEndARecord : Obligations.CancelAndDeadlineEndARecord := by
  intro tag id s
  refine ⟨fun h hid => ?_, fun h hid hnone => ?_, fun t e h hid ht hdone => ?_,
    fun t h hid ht hlive => ?_, fun t ht hlive => ?_, fun t e ht hdone => ?_, fun hnone => ?_⟩
  · exact congrArg Host.Outcome.next (State.request_withTxn_badArg h hid)
  · exact congrArg Host.Outcome.next (State.request_withTxn_notFound h hid hnone)
  · have hlive : ¬ t.live = true := Bool.eq_false_iff.mp (Txn.live_of_done hdone)
    exact congrArg Host.Outcome.next (State.request_withTxn_found h hid ht rfl (if_neg hlive))
  · obtain ⟨-, rfl⟩ := State.txn?_some ht
    exact congrArg Host.Outcome.next
      (State.request_withTxn_found h hid ht rfl (if_pos (Txn.live_iff.mpr hlive)))
  · obtain ⟨-, rfl⟩ := State.txn?_some ht
    exact exec_deadlineExpiry_live ht (Txn.live_iff.mpr hlive)
  · refine exec_deadlineExpiry_none fun u hu => ?_
    obtain rfl := Option.some_inj.mp (ht.symm.trans hu)
    exact Txn.live_of_done hdone
  · exact exec_deadlineExpiry_none fun u hu => absurd (hnone.symm.trans hu) nofun

end Sys2Proof.Machine
end

section
/-! SUPPORT. Proofs: the operations of the Fault List, its law, and the raise of a fault (R137 to R143, R149). -/

namespace Sys2Proof.Machine

/-! ## Entries of an address and code (R136, R137) -/

/-- What tells one fault entry from another (R137). -/
def FaultEntry.key (e : FaultEntry) : Nat × FaultCode := (e.address, e.code)

/-- The keys of a list of entries, in order. -/
def faultKeys (l : List FaultEntry) : List (Nat × FaultCode) := l.map FaultEntry.key

theorem FaultEntry.isOf_iff {e : FaultEntry} {a : Nat} {c : FaultCode} :
    e.isOf a c = true ↔ e.address = a ∧ e.code = c := by
  simp [FaultEntry.isOf]

theorem FaultEntry.isOf_iff_key {e : FaultEntry} {a : Nat} {c : FaultCode} :
    e.isOf a c = true ↔ e.key = (a, c) :=
  FaultEntry.isOf_iff.trans (Iff.of_eq (Prod.mk.injEq ..)).symm

/-- An entry of an address and code stands exactly where their key does. -/
theorem any_isOf_iff {l : List FaultEntry} {a : Nat} {c : FaultCode} :
    l.any (·.isOf a c) = true ↔ (a, c) ∈ faultKeys l := by
  simp only [faultKeys, List.mem_map, List.any_eq_true, FaultEntry.isOf_iff_key]

theorem not_mem_faultKeys {l : List FaultEntry} {a : Nat} {c : FaultCode} :
    (a, c) ∉ faultKeys l ↔ ∀ e ∈ l, e.isOf a c = false := by
  rw [← any_isOf_iff, Bool.not_eq_true, List.any_eq_false]
  simp only [Bool.not_eq_true]

theorem not_mem_faultKeys_iff {l : List FaultEntry} {a : Nat} {c : FaultCode} :
    (a, c) ∉ faultKeys l ↔ ∀ e ∈ l, ¬ (e.address = a ∧ e.code = c) := by
  simp only [not_mem_faultKeys, ← FaultEntry.isOf_iff, Bool.not_eq_true]

theorem FaultList.law_iff {l : FaultList} : l.Law ↔
    l.entries.length ≤ 12 ∧ (faultKeys l.entries).Nodup ∧ l.flt = anyActive l.entries := Iff.rfl

/-- A list whose keys are among those of a lawful list, in order, is lawful once FLT follows it. -/
theorem FaultList.Law.of_sublist {l m : FaultList} (h : l.Law)
    (hkeys : (faultKeys m.entries).Sublist (faultKeys l.entries)) (hflt : m.flt = anyActive m.entries) :
    m.Law := by
  obtain ⟨hlen, hnodup, -⟩ := FaultList.law_iff.mp h
  refine ⟨?_, hkeys.nodup hnodup, hflt⟩
  have hle := hkeys.length_le
  rw [faultKeys, faultKeys, List.length_map, List.length_map] at hle
  exact Nat.le_trans hle hlen

/-- Changing entries under their keys leaves the keys as they are. -/
theorem faultKeys_map {f : FaultEntry → FaultEntry} (hf : ∀ e, (f e).key = e.key)
    (l : List FaultEntry) : faultKeys (l.map f) = faultKeys l := by
  rw [faultKeys, List.map_map]
  exact List.map_congr_left fun e _ => hf e

/-- A list whose entries are those of a lawful list, changed under their keys, is lawful once FLT follows
it. -/
theorem FaultList.Law.of_map {l m : FaultList} (h : l.Law) {f : FaultEntry → FaultEntry}
    (hf : ∀ e, (f e).key = e.key) (hm : m.entries = l.entries.map f)
    (hflt : m.flt = anyActive m.entries) : m.Law := by
  have hkeys : faultKeys l.entries = faultKeys m.entries := by rw [hm, faultKeys_map hf]
  exact h.of_sublist (hkeys ▸ List.Sublist.refl _) hflt

/-- In a lawful list no entry before or after another one is of its address and code (R137). -/
theorem FaultList.Law.others {l : FaultList} (h : l.Law) {before after : List FaultEntry}
    {e : FaultEntry} (hsplit : l.entries = before ++ e :: after) :
    ∀ f ∈ before ++ after, f.isOf e.address e.code = false := by
  obtain ⟨-, hnodup, -⟩ := FaultList.law_iff.mp h
  rw [hsplit, faultKeys, List.map_append, List.map_cons, nodup_append_cons, ← List.map_append] at hnodup
  obtain ⟨hnot, -⟩ := List.nodup_cons.mp hnodup
  refine fun f hf => Bool.eq_false_iff.mpr fun hof => hnot ?_
  have hkey : f.key = e.key := FaultEntry.isOf_iff_key.mp hof
  exact hkey ▸ List.mem_map_of_mem hf

/-- The entry found by an address and code is the first one of them. -/
theorem find?_isOf {before after : List FaultEntry} {e : FaultEntry} {a : Nat} {c : FaultCode}
    (hbefore : ∀ f ∈ before, f.isOf a c = false) (he : e.isOf a c = true) :
    (before ++ e :: after).find? (·.isOf a c) = some e := by
  have hnone : before.find? (·.isOf a c) = none :=
    List.find?_eq_none.mpr fun f hf => by rw [hbefore f hf]; exact Bool.false_ne_true
  rw [List.find?_append, hnone, Option.none_or]
  exact List.find?_cons_of_pos he

/-! ## The three cases of a raise (R140) -/

section
variable {l : FaultList} {r : FaultRaise}

theorem FaultList.dispose_coalesced (h : (r.address, r.code) ∈ faultKeys l.entries) :
    l.dispose r = .coalesced :=
  if_pos (any_isOf_iff.mpr h)

theorem FaultList.dispose_appended (h : (r.address, r.code) ∉ faultKeys l.entries)
    (hroom : l.entries.length < 12) : l.dispose r = .appended :=
  (if_neg (mt any_isOf_iff.mp h)).trans (if_pos hroom)

theorem FaultList.dispose_overflowed (h : (r.address, r.code) ∉ faultKeys l.entries)
    (hfull : ¬ l.entries.length < 12) : l.dispose r = .overflowed :=
  (if_neg (mt any_isOf_iff.mp h)).trans (if_neg hfull)

/-- A raise meets one of the three cases of R140. -/
theorem FaultList.dispose_cases (l : FaultList) (r : FaultRaise) :
    (l.dispose r = .coalesced ∧ l.enter r = { l with entries := l.entries.map (foldRaise r) }) ∨
    (l.dispose r = .appended ∧ (r.address, r.code) ∉ faultKeys l.entries ∧ l.entries.length < 12 ∧
      l.enter r = { l with entries := l.entries ++ [r.entry] }) ∨
    (l.dispose r = .overflowed ∧ l.enter r = { l with overflow := satInc l.overflow }) := by
  unfold FaultList.enter
  by_cases hmem : (r.address, r.code) ∈ faultKeys l.entries
  · exact .inl (by rw [FaultList.dispose_coalesced hmem]; exact ⟨rfl, rfl⟩)
  by_cases hroom : l.entries.length < 12
  · exact .inr (.inl (by rw [FaultList.dispose_appended hmem hroom]; exact ⟨rfl, hmem, hroom, rfl⟩))
  · exact .inr (.inr (by rw [FaultList.dispose_overflowed hmem hroom]; exact ⟨rfl, rfl⟩))

theorem foldRaise_of_isOf {e : FaultEntry} (h : e.isOf r.address r.code = true) :
    foldRaise r e =
      { e with repeats := satInc e.repeats, lastSweep := r.sweep, active := e.active || r.active } :=
  if_pos h

theorem foldRaise_of_not {e : FaultEntry} (h : e.isOf r.address r.code = false) :
    foldRaise r e = e :=
  if_neg (Bool.eq_false_iff.mp h)

theorem foldRaise_key (r : FaultRaise) (e : FaultEntry) : (foldRaise r e).key = e.key := by
  unfold foldRaise
  split <;> rfl

theorem foldRaise_active (h : r.active = false) (e : FaultEntry) :
    (foldRaise r e).active = e.active := by
  unfold foldRaise
  split
  · rw [h, Bool.or_false]
  · rfl

/-- A raise that is momentary or overflows leaves it as it was whether an entry is active. -/
theorem FaultList.enter_anyActive (h : (r.active && l.dispose r != .overflowed) = false) :
    anyActive (l.enter r).entries = anyActive l.entries := by
  obtain ⟨hd, he⟩ | ⟨hd, -, -, he⟩ | ⟨-, he⟩ := l.dispose_cases r <;> rw [he]
  · have hr : r.active = false := by simpa [hd] using h
    simp only [anyActive, List.any_map, Function.comp_def, foldRaise_active hr]
  · have hr : r.active = false := by simpa [hd] using h
    simp [anyActive, FaultRaise.entry, hr]

theorem FaultList.enter_flt (l : FaultList) (r : FaultRaise) : (l.enter r).flt = l.flt := by
  unfold FaultList.enter
  split <;> rfl

/-- Where FLT follows the list, a raise is entered and FLT follows the list again (R140, R142). -/
theorem FaultList.take_eq (h : l.flt = anyActive l.entries) :
    l.take r = { l.enter r with capture := l.offer r (l.dispose r)
                                flt := anyActive (l.enter r).entries } := by
  unfold FaultList.take
  dsimp only
  split
  · rfl
  · next hquiet =>
    rw [FaultList.enter_anyActive (Bool.eq_false_iff.mpr hquiet), ← h, ← l.enter_flt r]

/-- A raise keeps the law of the Fault List (R137, R140, R142). -/
theorem FaultList.Law.take (h : l.Law) (r : FaultRaise) : (l.take r).Law := by
  obtain ⟨hlen, hnodup, hflt⟩ := FaultList.law_iff.mp h
  rw [FaultList.take_eq hflt]
  obtain ⟨-, he⟩ | ⟨-, hnew, hroom, he⟩ | ⟨-, he⟩ := l.dispose_cases r <;> rw [he]
  · exact h.of_map (foldRaise_key r) rfl rfl
  · refine FaultList.law_iff.mpr ⟨?_, ?_, rfl⟩
    · rw [List.length_append]
      exact hroom
    · rw [faultKeys, List.map_append, List.map_singleton, nodup_append_cons, List.append_nil]
      exact List.nodup_cons.mpr ⟨hnew, hnodup⟩
  · exact h.of_sublist (.refl _) rfl

end

/-! ## What else changes the list (R20, R21, R141, R145 to R147, R150) -/

section
variable {l : FaultList}

theorem quietEntry_key (a : Nat) (c : FaultCode) (e : FaultEntry) : (quietEntry a c e).key = e.key := by
  unfold quietEntry
  split <;> rfl

theorem FaultList.Law.flt_eq (h : l.Law) : l.flt = anyActive l.entries :=
  (FaultList.law_iff.mp h).2.2

theorem FaultList.Law.mark (h : l.Law) (a : Nat) (c : FaultCode) : (l.mark a c).Law :=
  h.of_map (quietEntry_key a c) (FaultList.mark_entries a c l) (FaultList.mark_flt h.flt_eq a c)

theorem FaultList.Law.remove (h : l.Law) (a : Nat) (c : FaultCode) : (l.remove a c).Law :=
  h.of_sublist (List.filter_sublist.map _) rfl

theorem FaultList.Law.behead (h : l.Law) : l.behead.Law :=
  h.of_sublist ((List.tail_sublist _).map _) rfl

theorem FaultList.reset_law : FaultList.reset.Law :=
  ⟨Nat.zero_le _, List.nodup_nil, rfl⟩

theorem FaultList.Law.clear (h : l.Law) : l.clear.Law :=
  h.of_sublist (List.nil_sublist _) rfl

theorem FaultEntry.afterApplication_key (cls : Nat → AddressClass) (e : FaultEntry) :
    (e.afterApplication cls).key = e.key := by
  unfold FaultEntry.afterApplication
  split <;> rfl

end

/-! ## The raise of a fault (R139 to R143, R149) -/

theorem satInc_eq {w : Nat} {m : BitVec w} (hm : BitVec.allOnes w = m) (c : BitVec w) :
    satInc c = if c = m then m else c + 1#w := by
  subst hm
  unfold satInc
  split
  · next h => exact h
  · rfl

theorem satInc_byte (b : Byte) : satInc b = if b = 255 then 255 else b + 1 := satInc_eq rfl b

theorem satInc_half (n : Half) : satInc n = if n = 65535 then 65535 else n + 1 := satInc_eq rfl n

section
variable {s : State} {r : FaultRaise}

/-- A raise is the Fault List's taking of it and the notice of what became of it (R140, R143). -/
theorem State.raiseFault_eq {d : Disposition} {l : FaultList} (hd : s.faults.dispose r = d)
    (hl : s.faults.take r = l) :
    s.raiseFault r = { s with faults := l, notices := s.notices.take (l.notice r d) } := by
  subst hd hl
  rfl

/-- The notice of a raise that has an entry shows it as the list holds it (R143). -/
theorem FaultList.notice_entry {l : FaultList} {d : Disposition} {e : FaultEntry}
    (hd : d ≠ .overflowed) (he : l.entries.find? (·.isOf r.address r.code) = some e) :
    l.notice r d =
      .faultRaised r.address r.code d r.sweep (some (e.repeats, e.active)) l.overflow := by
  unfold FaultList.notice
  cases d with
  | appended | coalesced => rw [he]; rfl
  | overflowed => exact absurd rfl hd

/-- A raise that meets its entry folds into it, in its place (R140, Coalesce). -/
theorem State.raiseFault_coalesced (h : s.faults.Law) {before after : List FaultEntry} {e : FaultEntry}
    (hsplit : s.faults.entries = before ++ e :: after) (ha : e.address = r.address)
    (hc : e.code = r.code) :
    let e' := { e with repeats := satInc e.repeats, lastSweep := r.sweep, active := e.active || r.active }
    s.raiseFault r = { s with
      faults := { s.faults with entries := before ++ e' :: after
                                capture := s.faults.offer r .coalesced
                                flt := anyActive (before ++ e' :: after) }
      notices := s.notices.take (.faultRaised r.address r.code .coalesced r.sweep
        (some (e'.repeats, e'.active)) s.faults.overflow) } := by
  intro e'
  have hof : e.isOf r.address r.code = true := FaultEntry.isOf_iff.mpr ⟨ha, hc⟩
  have hothers := h.others hsplit
  rw [ha, hc] at hothers
  have hbefore := fun f hf => hothers f (List.mem_append_left _ hf)
  have hafter := fun f hf => hothers f (List.mem_append_right _ hf)
  have hd : s.faults.dispose r = .coalesced :=
    FaultList.dispose_coalesced (any_isOf_iff.mp (List.any_eq_true.mpr ⟨e, by simp [hsplit], hof⟩))
  have hfold : s.faults.entries.map (foldRaise r) = before ++ e' :: after := by
    rw [hsplit, List.map_append, List.map_cons, foldRaise_of_isOf hof,
      List.map_congr_left fun f hf => foldRaise_of_not (hbefore f hf),
      List.map_congr_left fun f hf => foldRaise_of_not (hafter f hf), List.map_id', List.map_id']
  have htake : s.faults.take r = { s.faults with
      entries := before ++ e' :: after, capture := s.faults.offer r .coalesced,
      flt := anyActive (before ++ e' :: after) } := by
    rw [FaultList.take_eq h.flt_eq, FaultList.enter, hd, ← hfold]
  rw [State.raiseFault_eq hd htake,
    FaultList.notice_entry (d := .coalesced) (e := e') nofun
      (find?_isOf (after := after) hbefore (e := e') hof)]

/-- A raise without an entry is appended while there is room (R140, Append). -/
theorem State.raiseFault_appended (h : s.faults.Law)
    (hnew : (r.address, r.code) ∉ faultKeys s.faults.entries) (hroom : s.faults.entries.length < 12) :
    s.raiseFault r = { s with
      faults := { s.faults with entries := s.faults.entries ++ [r.entry]
                                capture := s.faults.offer r .appended
                                flt := anyActive (s.faults.entries ++ [r.entry]) }
      notices := s.notices.take (.faultRaised r.address r.code .appended r.sweep
        (some (1#8, r.active)) s.faults.overflow) } := by
  have hd := FaultList.dispose_appended hnew hroom
  have htake : s.faults.take r = { s.faults with
      entries := s.faults.entries ++ [r.entry], capture := s.faults.offer r .appended,
      flt := anyActive (s.faults.entries ++ [r.entry]) } := by
    rw [FaultList.take_eq h.flt_eq, FaultList.enter, hd]
  rw [State.raiseFault_eq hd htake,
    FaultList.notice_entry (d := .appended) (e := r.entry) nofun
      (find?_isOf (not_mem_faultKeys.mp hnew) (FaultEntry.isOf_iff.mpr ⟨rfl, rfl⟩))]
  rfl

/-- A raise without an entry only counts when the list is full (R140, Overflow). -/
theorem State.raiseFault_overflowed (hnew : (r.address, r.code) ∉ faultKeys s.faults.entries)
    (hfull : ¬ s.faults.entries.length < 12) :
    s.raiseFault r = { s with
      faults := { s.faults with overflow := satInc s.faults.overflow
                                capture := s.faults.offer r .overflowed }
      notices := s.notices.take (.faultRaised r.address r.code .overflowed r.sweep none
        (satInc s.faults.overflow)) } := by
  have hd := FaultList.dispose_overflowed hnew hfull
  have htake : s.faults.take r = { s.faults with
      overflow := satInc s.faults.overflow, capture := s.faults.offer r .overflowed } := by
    unfold FaultList.take FaultList.enter
    rw [hd]
    exact if_neg (by simp)
  rw [State.raiseFault_eq hd htake]
  rfl

end

/-- Settles O48: the three cases of `FaultList.dispose`, each with the state it leaves. -/
theorem faultRaisesFold : Obligations.FaultRaisesFold := by
  intro r s h
  refine ⟨fun before e after hsplit ha hc => ?_, fun hnone hroom => ?_, fun hnone hfull => ?_⟩
  · rw [← satInc_byte]
    exact State.raiseFault_coalesced h hsplit ha hc
  · exact State.raiseFault_appended h (not_mem_faultKeys_iff.mpr hnone) hroom
  · rw [← satInc_half]
    exact State.raiseFault_overflowed (not_mem_faultKeys_iff.mpr hnone) (by omega)

end Sys2Proof.Machine
end

section
/-! SUPPORT. Proofs: the fault list requests, what they answer and what they leave (R144 to R147, R150). -/

namespace Sys2Proof.Machine

/-! ## ACK_FAULT (R145) -/

theorem FaultCode.ofCode_code (c : FaultCode) : FaultCode.ofCode c.code = some c := by
  cases c <;> rfl

theorem FaultCode.ofCode_none {n : Nat} (h : n = 0 ∨ 7 < n) : FaultCode.ofCode n = none := by
  obtain rfl | h := h
  · rfl
  · obtain ⟨k, rfl⟩ := Nat.exists_eq_add_of_le' (show 8 ≤ n from h)
    rfl

section
variable {s : State} {a code : Nat}

theorem takeAckFault_badArg (h : 119 < a ∨ code = 0 ∨ 7 < code) :
    takeAckFault a code s = s.refuse .badArg := by
  unfold takeAckFault
  split
  · next ha => rw [FaultCode.ofCode_none (h.resolve_left (Nat.not_lt.mpr ha))]
  · rfl

theorem takeAckFault_notFound {c : FaultCode} (ha : a ≤ 119)
    (h : (a, c) ∉ faultKeys s.faults.entries) : takeAckFault a c.code s = s.refuse .notFound := by
  have hnone : s.faults.entries.find? (·.isOf a c) = none :=
    List.find?_eq_none.mpr fun e he => Bool.eq_false_iff.mp (not_mem_faultKeys.mp h e he)
  unfold takeAckFault
  rw [if_pos ha, FaultCode.ofCode_code]
  dsimp only
  rw [hnone]

/-- Removing the entry of an address and code leaves the others in their order (R142, R145). -/
theorem FaultList.Law.remove_eq {l : FaultList} (h : l.Law) {before after : List FaultEntry}
    {e : FaultEntry} (hsplit : l.entries = before ++ e :: after) :
    l.remove e.address e.code =
      { l with entries := before ++ after, flt := anyActive (before ++ after) } := by
  have hothers := h.others hsplit
  have hself : e.isOf e.address e.code = true := FaultEntry.isOf_iff.mpr ⟨rfl, rfl⟩
  have hfilter : l.entries.filter (fun f => !f.isOf e.address e.code) = before ++ after := by
    rw [hsplit, List.filter_append, List.filter_cons_of_neg (by simp [hself]), ← List.filter_append]
    exact List.filter_eq_self.mpr fun f hf => by rw [hothers f hf]; rfl
  unfold FaultList.remove FaultList.setFlt
  rw [hfilter]

theorem takeAckFault_removed (h : s.faults.Law) {before after : List FaultEntry} {e : FaultEntry}
    (hsplit : s.faults.entries = before ++ e :: after) (ha : e.address ≤ 119) :
    takeAckFault e.address e.code.code s =
      { s with faults := { s.faults with entries := before ++ after
                                         flt := anyActive (before ++ after) } }.acknowledged e := by
  have hothers := h.others hsplit
  have hfound : s.faults.entries.find? (·.isOf e.address e.code) = some e := by
    rw [hsplit]
    exact find?_isOf (fun f hf => hothers f (List.mem_append_left _ hf))
      (FaultEntry.isOf_iff.mpr ⟨rfl, rfl⟩)
  unfold takeAckFault
  rw [if_pos ha, FaultCode.ofCode_code]
  dsimp only
  rw [hfound, ← h.remove_eq hsplit]
  rfl

/-! ## ACK_OLDEST and READ_CAPTURE (R146, R150) -/

theorem takeAckOldest_empty (h : s.faults.entries = []) : takeAckOldest s = s.refuse .empty := by
  unfold takeAckOldest
  rw [h]

theorem takeAckOldest_removed {e : FaultEntry} {rest : List FaultEntry}
    (h : s.faults.entries = e :: rest) :
    takeAckOldest s =
      { s with faults := { s.faults with entries := rest, flt := anyActive rest } }.acknowledged e := by
  have hbehead : s.faults.behead = { s.faults with entries := rest, flt := anyActive rest } := by
    unfold FaultList.behead FaultList.setFlt
    rw [h, List.tail_cons]
  unfold takeAckOldest
  rw [h, ← hbehead]
  rfl

theorem takeReadCapture_empty (h : s.faults.capture = none) : takeReadCapture s = s.refuse .empty := by
  unfold takeReadCapture
  rw [h]

theorem takeReadCapture_filled {c : Capture} (h : s.faults.capture = some c) :
    takeReadCapture s = s.ok c.bytes := by
  unfold takeReadCapture
  rw [h]

end

/-- A request's command, answered (R176 to R180). -/
theorem State.next_answered {s t : State} {tag kind : Byte} (h : s.Accepting tag)
    {owner : State → Answer} {st : Status} {fields : List Byte} (ht : t.host = s.host)
    (ho : owner { s with host := s.host.counted } =
      ({ t with host := s.host.counted }, .of st fields)) :
    (.next (s.request tag kind owner) : Result) = .next (t.answered tag kind st fields) :=
  congrArg Host.Outcome.next (State.request_answered h ht ho)

/-- Settles O47: each request by what the list and the capture record hold, its owner's answer carried
to the Host Port by `State.next_answered`. -/
theorem faultsReadAndAcknowledged : Obligations.FaultsReadAndAcknowledged := by
  refine ⟨fun tag s h => ⟨?_, fun hnone => ?_, fun c hc => ?_, ?_⟩, fun tag a code s h => ?_⟩
  · exact State.next_answered h rfl rfl
  · exact State.next_answered h rfl (takeReadCapture_empty hnone)
  · exact State.next_answered h rfl (takeReadCapture_filled hc)
  · exact State.next_answered h rfl rfl
  refine ⟨fun hbad => ?_, fun c ha hcode hnone => ?_, fun e before after hlaw hsplit ha hadr hcode => ?_,
    fun hnil => ?_, fun e rest hcons => ?_, ?_⟩
  · exact State.next_answered h rfl (takeAckFault_badArg hbad)
  · subst hcode
    exact State.next_answered h rfl (takeAckFault_notFound ha (not_mem_faultKeys_iff.mpr hnone))
  · subst hadr hcode
    exact State.next_answered h rfl
      (takeAckFault_removed (s := { s with host := s.host.counted }) hlaw hsplit ha)
  · exact State.next_answered h rfl (takeAckOldest_empty hnil)
  · exact State.next_answered h rfl (takeAckOldest_removed hcons)
  · exact State.next_answered h rfl rfl

end Sys2Proof.Machine
end

section
/-! SUPPORT. Proofs: the law of the Fault List through sweeps, judged attempts and the field line (R137, R142). -/

namespace Sys2Proof.Machine

/-! ## What leaves the Fault List alone -/

section
variable (s : State)

@[simp] theorem State.onStation_faults (a : Nat) (f : Station → Station) :
    (s.onStation a f).faults = s.faults := rfl
@[simp] theorem State.onImageOf_faults (a : Nat) (f : Image → Image) :
    (s.onImageOf a f).faults = s.faults := rfl

@[simp] theorem State.departFrom_faults (before : StationState) (a : Nat) :
    (s.departFrom before a).faults = s.faults := by
  unfold State.departFrom
  split <;> simp

@[simp] theorem State.handSafe_faults : s.handSafe.faults = s.faults := s.hand_faults _

@[simp] theorem State.handCyclic_faults (e : RosterEntry) : (s.handCyclic e).faults = s.faults := by
  unfold State.handCyclic
  dsimp only
  split <;> simp

@[simp] theorem State.probePhase_faults : s.probePhase.faults = s.faults := by
  rcases s.probePhase_cases with ⟨a, h⟩ | h <;> simp [h]

@[simp] theorem State.acyclicPhase_faults : s.acyclicPhase.faults = s.faults := by
  rcases s.acyclicPhase_cases with ⟨x, -, h⟩ | h <;> simp [h]

@[simp] theorem State.cyclicPhase_faults : s.cyclicPhase.faults = s.faults := by
  rcases s.cyclicPhase_cases with ⟨e, -, h⟩ | ⟨-, h⟩ <;> simp [h, State.startAcyclic]

@[simp] theorem State.nextSweep_faults : s.nextSweep.faults = s.faults := by simp [State.nextSweep]

@[simp] theorem State.enterPolicyHalt_faults : s.enterPolicyHalt.faults = s.faults := by
  simp [State.enterPolicyHalt]

@[simp] theorem State.surveyNext_faults (a : Nat) : (s.surveyNext a).faults = s.faults := by
  unfold State.surveyNext
  split <;> simp

@[simp] theorem State.probeFailure_faults (x : Exchange) : (s.probeFailure x).faults = s.faults := by
  unfold State.probeFailure
  split <;> simp

@[simp] theorem State.countAttempt_faults (x : Exchange) : (s.countAttempt x).faults = s.faults := rfl

@[simp] theorem State.orphan_faults : s.orphan.faults = s.faults := rfl

@[simp] theorem State.reqackQueued_faults (t : Txn) (o : ReqOutcome) (detail : Nat)
    (data : List Byte) : (s.reqackQueued t o detail data).faults = s.faults := by
  unfold State.reqackQueued
  (repeat' split) <;> simp

@[simp] theorem State.reqack_faults (a id : Nat) (o : ReqOutcome) (detail : Nat) (data : List Byte) :
    (s.reqack a id o detail data).faults = s.faults := by
  unfold State.reqack
  (repeat' split) <;> simp

@[simp] theorem State.fetched_faults (a id detail : Nat) (data : List Byte) :
    (s.fetched a id detail data).faults = s.faults := by
  unfold State.fetched
  split <;> simp

@[simp] theorem State.acyclicSuccess_faults (x : Exchange) (g : GoodReply) :
    (s.acyclicSuccess x g).faults = s.faults := by
  unfold State.acyclicSuccess
  split <;> simp

@[simp] theorem State.guardDone_faults : s.guardDone.faults = s.faults := by
  unfold State.guardDone
  dsimp only
  (repeat' split) <;> simp

@[simp] theorem State.restartQuiet_faults : s.restartQuiet.faults = s.faults := by
  unfold State.restartQuiet
  split <;> simp

end

/-! ## Raises, marks and applications (R20, R21, R140, R141) -/

/-- The part's Fault List is lawful (R137, R142). -/
def State.FaultsLawful (s : State) : Prop := s.faults.Law

namespace State.FaultsLawful

section
variable {s : State} (h : s.FaultsLawful)
include h

/-- What leaves the Fault List alone keeps its law. -/
theorem congr {t : State} (e : t.faults = s.faults) : t.FaultsLawful := by
  rw [State.FaultsLawful, e]
  exact h

theorem raiseFault (r : FaultRaise) : (s.raiseFault r).FaultsLawful := FaultList.Law.take h r

theorem raiseLineFault (c : FaultCode) (active : Bool) : (s.raiseLineFault c active).FaultsLawful :=
  h.raiseFault _

theorem markInactive (a : Nat) (c : FaultCode) : (s.markInactive a c).FaultsLawful :=
  FaultList.Law.mark h a c

theorem markStation (a : Nat) : (s.markStation a).FaultsLawful :=
  ((h.markInactive a _).markInactive a _).markInactive a _

theorem applyRoster (new : Roster) : (s.applyRoster new).FaultsLawful :=
  FaultList.Law.of_map h (FaultEntry.afterApplication_key _) (State.applyRoster_entries s new)
    (State.applyRoster_flt (FaultList.Law.flt_eq h) new)

theorem applyPending : s.applyPending.FaultsLawful := by
  unfold State.applyPending
  split
  · exact h
  · next new _ =>
    exact State.FaultsLawful.applyRoster (s := s.onRoster _) h new

/-! ## Sweeps (R55, R58, R65 to R68) -/

theorem overrun : s.overrun.FaultsLawful := .raiseLineFault h _ _

theorem successor : s.successor.FaultsLawful := by
  unfold State.successor
  split
  · exact h.congr (by simp)
  · split
    · exact h
    · split
      · exact h.congr (by simp)
      · exact h.overrun.congr (by simp)

theorem planDecision : s.planDecision.FaultsLawful := by
  have hgoOn (t : State) (ht : t.FaultsLawful) :
      (if t.sweep.stop || t.rosterEmpty then t.goReady else t.successor).FaultsLawful := by
    split
    · exact ht
    · exact ht.successor
  unfold State.planDecision
  dsimp only
  split
  · split
    · exact h
    · exact hgoOn _ h
  · exact hgoOn _ h
  · exact hgoOn _ h

theorem endPhase : s.endPhase.FaultsLawful := .planDecision (.applyPending h)

theorem finish : s.finish.FaultsLawful := by
  unfold State.finish
  split
  · exact h.endPhase
  · exact h

theorem runCyclic : s.runCyclic.FaultsLawful := .finish (h.congr (by simp))

theorem runAcyclic : s.runAcyclic.FaultsLawful := .finish (h.congr (by simp))

theorem beginSweep : s.beginSweep.FaultsLawful := .runCyclic h

theorem beginUnlessEmpty : s.beginUnlessEmpty.FaultsLawful := by
  unfold State.beginUnlessEmpty
  split
  · exact h
  · exact h.beginSweep

/-! ## Cuts, closings and contention (R49 to R53, R69 to R71) -/

theorem enterOff : s.enterOff.FaultsLawful := by
  unfold State.enterOff
  dsimp only
  split
  · exact .markInactive (h.congr (by simp)) _ _
  · exact h.congr (by simp)

theorem cutSweep : s.cutSweep.FaultsLawful := .applyPending h

theorem policyHalt : s.policyHalt.FaultsLawful := h.cutSweep.congr (by simp [State.policyHalt])

theorem boundaryReached : s.boundaryReached.FaultsLawful := by
  unfold State.boundaryReached
  split
  · exact h.congr (by simp)
  · split
    · exact h.cutSweep.congr (by simp)
    · exact h.cutSweep.beginUnlessEmpty

theorem takeCut : s.takeCut.FaultsLawful := by
  unfold State.takeCut
  split
  · exact h
  · exact .boundaryReached h

theorem cutForContention : s.cutForContention.FaultsLawful := by
  have hswept : State.FaultsLawful (if s.sweep.line = .sweeping then
      if s.sweep.phase.running then s.cutSweep else s.applyPending else s) := by
    split
    · split
      · exact h.cutSweep
      · exact h.applyPending
    · exact h
  unfold State.cutForContention
  dsimp only
  split
  · exact hswept
  · exact hswept

theorem contention : s.contention.FaultsLawful :=
  .raiseLineFault ((State.FaultsLawful.cutForContention (s := s.abandon) h).congr (by simp)) _ _

/-! ## Judged attempts (R27 to R37, R83 to R89) -/

theorem applyFailure (e : RosterEntry) (t : Station) (k : FailureKind) :
    (s.applyFailure e t k).FaultsLawful := by
  unfold State.applyFailure
  dsimp only
  split
  · refine State.FaultsLawful.congr (.raiseFault ?_ _) (State.announce_faults ..)
    exact h.congr (by simp)
  · exact h.congr (by simp)

theorem cyclicFailure (x : Exchange) (k : FailureKind) : (s.cyclicFailure x k).FaultsLawful := by
  unfold State.cyclicFailure
  split
  · exact h.applyFailure _ _ _
  · exact h

theorem alarmEdge (a : Nat) (seen : StationState) (old new : Bool) :
    (s.alarmEdge a seen old new).FaultsLawful := by
  unfold State.alarmEdge
  split
  · exact h.raiseFault _
  · split
    · exact h.markInactive _ _
    · exact h

theorem acceptData (t : Station) (flags : StatusFlags) (inputs : List Byte) :
    (s.acceptData t flags inputs).FaultsLawful := by
  unfold State.acceptData
  refine State.FaultsLawful.congr ?_ (State.announce_faults ..)
  split
  · exact .raiseFault (.alarmEdge (h.congr (by simp)) _ _ _ _) _
  · exact .alarmEdge (h.congr (by simp)) _ _ _ _

theorem applyIdentity (e : RosterEntry) (t : Station) (i : Identity) :
    (s.applyIdentity e t i).FaultsLawful := by
  unfold State.applyIdentity
  split
  · exact h.congr (by simp)
  · exact State.FaultsLawful.congr (.raiseFault h _) (State.announce_faults ..)

theorem stationSuccess (x : Exchange) (g : GoodReply) : (s.stationSuccess x g).FaultsLawful := by
  unfold State.stationSuccess
  split
  · split
    · exact h.acceptData _ _ _
    · split
      · exact (h.markInactive _ _).applyIdentity _ _ _
      · exact h.applyIdentity _ _ _
    all_goals exact h
  · exact h

theorem success (x : Exchange) (g : GoodReply) : (s.success x g).FaultsLawful := by
  unfold State.success
  split
  · exact h.stationSuccess x g
  · exact h.stationSuccess x g
  · exact h.congr (by simp)
  · split <;> exact h
  · exact h

theorem proceed (x : Exchange) : (s.proceed x).FaultsLawful := by
  unfold State.proceed
  split
  · exact h.runCyclic
  · exact h.runAcyclic
  · exact h.endPhase
  · exact h.congr (by simp)
  · exact h

theorem failure (x : Exchange) (k : FailureKind) : (s.failure x k).FaultsLawful := by
  unfold State.failure
  split
  · split
    · exact (h.cyclicFailure x k).policyHalt
    · exact (h.cyclicFailure x k).runCyclic
  · exact .endPhase (h.congr (by simp))
  · exact .runAcyclic h
  · exact h.congr (by simp)
  · exact h

theorem goodAttempt (x : Exchange) (g : GoodReply) : (s.goodAttempt x g).FaultsLawful := by
  have hhanded : ((s.reportAttempt x none).dropExchange.success x g).FaultsLawful :=
    .success (h.congr (by simp)) x g
  unfold State.goodAttempt
  dsimp only
  split
  · exact hhanded.boundaryReached
  · exact hhanded.proceed x

theorem failedAttempt (x : Exchange) (k : FailureKind) : (s.failedAttempt x k).FaultsLawful := by
  unfold State.failedAttempt
  dsimp only
  split
  · exact .boundaryReached h
  · split
    · exact h.congr (by simp)
    · exact .failure (h.congr (by simp)) x k

theorem judged (x : Exchange) (r : Except FailureKind GoodReply) (endedAt : Nat) :
    (s.judged x r endedAt).FaultsLawful := by
  have hguard (k : Option FailureKind) :
      ((s.countLine (countResult k)).startGuard endedAt).FaultsLawful := h
  unfold State.judged
  split
  · exact (hguard none).goodAttempt x _
  · exact (hguard _).failedAttempt x _

/-! ## Frames and characters of the field line (R77 to R82, R91 to R93) -/

theorem foreignFrame : s.foreignFrame.FaultsLawful := .contention h

theorem collision : s.collision.FaultsLawful := .contention h

theorem replyEnd (x : Exchange) (chars : List FieldChar) (endedAt : Nat) :
    (s.replyEnd x chars endedAt).FaultsLawful := by
  unfold State.replyEnd
  split
  · exact h.foreignFrame
  · split <;> exact h.judged x _ endedAt

theorem unawaitedEnd (chars : List FieldChar) (endedAt : Nat) :
    (s.unawaitedEnd chars endedAt).FaultsLawful := by
  unfold State.unawaitedEnd
  split
  · exact h.foreignFrame
  · exact h

theorem frameEnd (chars : List FieldChar) (endedAt : Nat) :
    (s.frameEnd chars endedAt).FaultsLawful := by
  unfold State.frameEnd
  split
  · exact h.replyEnd _ _ _
  · exact h.unawaitedEnd _ _

theorem takeChar (chars : List FieldChar) : (s.takeChar chars).FaultsLawful := by
  unfold State.takeChar
  split
  · exact h.frameEnd _ _
  · exact h

theorem safeDone : s.safeDone.FaultsLawful := by
  have hleft : State.FaultsLawful (if s.sweep.line = .sweeping then
      (s.countLine fun c => { c with sent := satInc c.sent }).abandon.applyPending
      else (s.countLine fun c => { c with sent := satInc c.sent }).abandon) := by
    split
    · exact .applyPending h
    · exact h
  have hhalted := hleft.congr (State.enterPolicyHalt_faults _)
  unfold State.safeDone
  dsimp only
  split
  · split
    · split
      · exact hhalted.enterOff
      · exact hhalted
    · exact hleft.enterOff
  · exact hleft.enterOff

theorem echo (x : Exchange) (a : Attempt) (c : FieldChar) : (s.echo x a c).FaultsLawful := by
  have hheard : (s.at (s.echoStop x a)).FaultsLawful := h
  rcases s.echo_cases x a c with he | he | he | he <;> rw [he]
  · exact hheard
  · exact hheard.safeDone
  · exact hheard
  · exact hheard.collision

theorem heardChar (c : FieldChar) : (s.heardChar c).FaultsLawful := by
  have hquiet : s.restartQuiet.FaultsLawful := h.congr (by simp)
  unfold State.heardChar
  dsimp only
  split
  · split
    · exact hquiet.takeChar _
    · split <;> exact hquiet
  · exact h

theorem fieldChar (c : FieldChar) : (s.fieldChar c).FaultsLawful := by
  unfold State.fieldChar
  split
  · split
    · exact h.echo _ _ c
    · exact h
  · exact h.heardChar c

theorem takeRest (st : EngineState → Bool) (rest : List FieldChar) :
    (s.takeRest st rest).FaultsLawful :=
  foldl_induct (P := State.FaultsLawful) (fun t c ht => by
    split
    · exact ht.fieldChar c
    · exact ht) rest h

theorem endTaken (st : EngineState → Bool) : (s.endTaken st).FaultsLawful := by
  unfold State.endTaken
  split
  · split
    · exact h.frameEnd _ _
    · exact h
  · exact h

end

end State.FaultsLawful

end Sys2Proof.Machine
end

section
/-! SUPPORT. Proofs: the law of the Fault List through every request, event and step (R137, R142). -/

namespace Sys2Proof.Machine

namespace State.FaultsLawful

/-- A reset leaves the Fault List empty (R182, R183). -/
theorem afterReset (s : State) (baud : Baud) (cause : ResetCause) :
    (s.afterReset baud cause).FaultsLawful := FaultList.reset_law

section
variable {s : State} (h : s.FaultsLawful)
include h

/-! ## The requests that change the Fault List -/

theorem takeCommit : (takeCommit s).1.FaultsLawful := by
  unfold Machine.takeCommit
  split
  · split
    · exact h
    · exact h.applyRoster _
  · exact h

theorem beginStop : s.beginStop.FaultsLawful := by
  unfold State.beginStop
  split
  · exact h
  · exact h.enterOff
  · exact h.enterOff
  · exact h.congr (by simp)
  · exact h.congr (by simp)
  · split
    · exact h.applyPending.congr (by simp)
    · exact .takeCut h
  · exact .takeCut h

theorem takeLineStop : (takeLineStop s).1.FaultsLawful := by
  unfold Machine.takeLineStop
  split
  · exact h
  · dsimp only
    split
    · exact h
    · exact h.beginStop

theorem startPlan (p : Plan) : (s.startPlan p).FaultsLawful := by
  unfold State.startPlan
  split
  · exact .beginSweep h
  · split
    · exact .beginUnlessEmpty (.applyPending h)
    · exact .takeCut h

theorem takeStartSweep (mode value : Nat) : (takeStartSweep mode value s).1.FaultsLawful := by
  unfold Machine.takeStartSweep
  split
  · exact h
  · split
    · split
      · exact h
      · exact h.startPlan _
    · exact h

theorem takeStopSweep : (takeStopSweep s).1.FaultsLawful := by
  unfold Machine.takeStopSweep
  split
  · dsimp only
    split
    · exact h.applyPending
    · exact h
  · exact h

theorem withStation {a : Nat} {owner : Station → State → Answer}
    (ho : ∀ t, (owner t s).1.FaultsLawful) : (s.withStation a owner).1.FaultsLawful := by
  unfold State.withStation
  split
  · split
    · exact h
    · exact ho _
  · exact h

theorem disable (t : Station) : (s.disable t).FaultsLawful :=
  State.FaultsLawful.congr (.markStation (h.congr (by simp)) _) (State.announce_faults ..)

theorem takeDisableStation (a : Nat) : (takeDisableStation a s).1.FaultsLawful :=
  h.withStation fun t => by
    split
    · exact h
    · exact h.disable t

theorem takeEnableStation (a : Nat) : (takeEnableStation a s).1.FaultsLawful :=
  h.withStation fun t => by
    split
    · exact h.congr (State.announce_faults ..)
    · exact h

theorem takeReadmit (a : Nat) : (takeReadmit a s).1.FaultsLawful :=
  h.withStation fun t => by
    split
    · exact (h.markInactive _ _).congr (State.announce_faults ..)
    · exact (h.markInactive _ _).congr (State.announce_faults ..)
    all_goals exact h

theorem renewByWrite : s.renewByWrite.FaultsLawful := by
  unfold State.renewByWrite
  split
  · exact h
  · exact h
  · exact h.markInactive _ _

theorem takeLease (p : Nat) : (s.takeLease p).FaultsLawful := by
  unfold State.takeLease
  split
  · split <;> exact h
  · split <;> exact h
  · split
    · exact h.markInactive _ _
    · exact h

theorem takeSetLease (p : Nat) : (takeSetLease p s).1.FaultsLawful := by
  unfold Machine.takeSetLease
  split
  · exact h.takeLease p
  · exact h

theorem takeWriteOutputs (items : List OutputItem) : (takeWriteOutputs items s).1.FaultsLawful := by
  unfold Machine.takeWriteOutputs
  (repeat' split)
  · exact .renewByWrite (h.congr (foldl_keeps (f := State.stageItem) (·.faults) (fun _ _ => rfl) items s))
  all_goals exact h

theorem expireLease (p : Nat) : (s.expireLease p).FaultsLawful := .raiseLineFault h _ _

theorem takeAckFault (a code : Nat) : (takeAckFault a code s).1.FaultsLawful := by
  unfold Machine.takeAckFault
  (repeat' split)
  · exact h
  · exact h
  · exact FaultList.Law.remove h _ _
  · exact h

theorem takeAckOldest : (takeAckOldest s).1.FaultsLawful := by
  unfold Machine.takeAckOldest
  split
  · exact h
  · exact FaultList.Law.behead h

/-! ## The requests that leave it alone -/

theorem withTxn {id : Nat} {owner : Txn → State → Answer}
    (ho : ∀ t, (owner t s).1.FaultsLawful) : (s.withTxn id owner).1.FaultsLawful := by
  unfold State.withTxn
  split
  · exact h
  · split
    · exact h
    · exact ho _

theorem takeStagePut (a : EntryArg) : (takeStagePut a s).1.FaultsLawful := by
  unfold Machine.takeStagePut
  dsimp only
  (repeat' split) <;> exact h

theorem takeStageRemove (a : Nat) : (takeStageRemove a s).1.FaultsLawful := by
  unfold Machine.takeStageRemove
  dsimp only
  (repeat' split) <;> exact h

theorem takeStageHeader (a : HeaderArg) : (takeStageHeader a s).1.FaultsLawful := by
  unfold Machine.takeStageHeader
  split <;> exact h

theorem takeReadRosterSingle (src a : Nat) : (takeReadRosterSingle src a s).1.FaultsLawful := by
  unfold Machine.takeReadRosterSingle
  (repeat' split) <;> exact h

theorem takeReadRosterRun (src start : Nat) : (takeReadRosterRun src start s).1.FaultsLawful := by
  unfold Machine.takeReadRosterRun
  (repeat' split) <;> exact h

theorem takeLineStart : (takeLineStart s).1.FaultsLawful := by
  unfold Machine.takeLineStart
  split <;> exact h

theorem takeStartSurvey : (takeStartSurvey s).1.FaultsLawful := by
  unfold Machine.takeStartSurvey
  split
  · exact h.congr (State.hand_faults ..)
  · exact h

theorem takeReadSurvey (start compare : Nat) : (takeReadSurvey start compare s).1.FaultsLawful := by
  unfold Machine.takeReadSurvey
  split <;> exact h

theorem takeReadInputsList (l : List Nat) : (takeReadInputsList l s).1.FaultsLawful := by
  unfold Machine.takeReadInputsList
  (repeat' split) <;> exact h

theorem takeReadInputsRun (start : Nat) : (takeReadInputsRun start s).1.FaultsLawful := by
  unfold Machine.takeReadInputsRun
  split <;> exact h

theorem takeReadOutputsList (l : List Nat) : (takeReadOutputsList l s).1.FaultsLawful := by
  unfold Machine.takeReadOutputsList
  (repeat' split) <;> exact h

theorem takeReadOutputsRun (start : Nat) : (takeReadOutputsRun start s).1.FaultsLawful := by
  unfold Machine.takeReadOutputsRun
  split <;> exact h

theorem takeRenewLease : (takeRenewLease s).1.FaultsLawful := by
  unfold Machine.takeRenewLease
  split <;> exact h

theorem takeSubmit (a : SubmitArg) : (takeSubmit a s).1.FaultsLawful := by
  unfold Machine.takeSubmit
  dsimp only
  (repeat' split) <;> exact h

theorem takeFetchResult (id : Nat) : (takeFetchResult id s).1.FaultsLawful :=
  h.withTxn fun t => by split <;> exact h

theorem takeDiscardResult (id : Nat) : (takeDiscardResult id s).1.FaultsLawful :=
  h.withTxn fun t => by split <;> exact h

theorem takeCancel (id : Nat) : (takeCancel id s).1.FaultsLawful :=
  h.withTxn fun t => by split <;> exact h

theorem takeReadCapture : (takeReadCapture s).1.FaultsLawful := by
  unfold Machine.takeReadCapture
  split <;> exact h

theorem takeSetNoticeClass (kind cls : Option Nat) :
    (takeSetNoticeClass kind cls s).1.FaultsLawful := by
  unfold Machine.takeSetNoticeClass State.setClass
  dsimp only
  (repeat' split) <;> exact h

theorem takeGrantNotices (n : Nat) : (takeGrantNotices n s).1.FaultsLawful := by
  unfold Machine.takeGrantNotices
  split <;> exact h

theorem takeFetchNotice : (takeFetchNotice s).1.FaultsLawful := by
  unfold Machine.takeFetchNotice
  split <;> exact h

theorem takeSetBaud (rate : Nat) : (takeSetBaud rate s).1.FaultsLawful := by
  unfold Machine.takeSetBaud
  split <;> exact h

/-! ## The Host Port's acceptance (R176, R177) -/

/-- Every request's owner keeps the law. -/
theorem owner {i : Instr} {owner : State → Answer} (ho : ownerOf i = some owner) :
    (owner s).1.FaultsLawful := by
  cases i <;> cases ho
  case commit => exact h.takeCommit
  case lineStop => exact h.takeLineStop
  case startSweep => exact h.takeStartSweep _ _
  case stopSweep => exact h.takeStopSweep
  case disableStation => exact h.takeDisableStation _
  case enableStation => exact h.takeEnableStation _
  case readmit => exact h.takeReadmit _
  case readStation => exact h.withStation fun _ => h
  case writeOutputs => exact h.takeWriteOutputs _
  case setLease => exact h.takeSetLease _
  case ackFault => exact h.takeAckFault _ _
  case ackOldest => exact h.takeAckOldest
  case clearFaults => exact FaultList.Law.clear h
  case setBaud => exact h.takeSetBaud _
  case stagePut => exact h.takeStagePut _
  case stageRemove => exact h.takeStageRemove _
  case stageHeader => exact h.takeStageHeader _
  case readRosterSingle => exact h.takeReadRosterSingle _ _
  case readRosterRun => exact h.takeReadRosterRun _ _
  case lineStart => exact h.takeLineStart
  case startSurvey => exact h.takeStartSurvey
  case readSurvey => exact h.takeReadSurvey _ _
  case readInputsList => exact h.takeReadInputsList _
  case readInputsRun => exact h.takeReadInputsRun _
  case readOutputsList => exact h.takeReadOutputsList _
  case readOutputsRun => exact h.takeReadOutputsRun _
  case renewLease => exact h.takeRenewLease
  case submit => exact h.takeSubmit _
  case queryRequest => exact h.withTxn fun _ => h
  case fetchResult => exact h.takeFetchResult _
  case discardResult => exact h.takeDiscardResult _
  case cancel => exact h.takeCancel _
  case readCapture => exact h.takeReadCapture
  case setNoticeClass => exact h.takeSetNoticeClass _ _
  case grantNotices => exact h.takeGrantNotices _
  case fetchNotice => exact h.takeFetchNotice
  case deviceReset | clearCounters | stageClear | stageRevert | clearCapture | withholdNotices => exact h
  case identify | readCounters | readSweepStatus | listRequests | readFaults => exact h

theorem answerParsed (p : Parsed) : (answerParsed p s).1.FaultsLawful := by
  unfold Machine.answerParsed
  split
  · split
    · exact h.owner (by assumption)
    · exact h
  all_goals exact h

theorem acceptFrame (tag kind : Byte) {owner : State → Answer}
    (ho : ∀ s : State, s.FaultsLawful → (owner s).1.FaultsLawful) :
    (s.acceptFrame tag kind owner).FaultsLawful := by
  unfold State.acceptFrame
  dsimp only
  split
  · split
    · exact h
    · exact ho (s.onHost _) h
  · exact h

theorem pump : s.pump.FaultsLawful := h.congr s.pump_faults

theorem request (tag kind : Byte) {owner : State → Answer}
    (ho : ∀ s : State, s.FaultsLawful → (owner s).1.FaultsLawful) :
    (s.request tag kind owner).FaultsLawful := by
  unfold State.request
  split
  · exact (h.acceptFrame tag kind ho).pump
  · exact h

/-! ## Bytes and frames of the host (R174 to R183) -/

theorem frameComplete (bytes : List Byte) : (s.frameComplete bytes).FaultsLawful := by
  unfold State.frameComplete
  dsimp only
  split
  · split
    · have hhunting : (s.onHost fun p => { p with rx := .hunt, rxFrame := none }).FaultsLawful := h
      exact hhunting.acceptFrame _ _ fun t ht => ht.answerParsed _
    · exact h
  · exact h

theorem takeByte (bytes : List Byte) : (s.takeByte bytes).FaultsLawful := by
  unfold State.takeByte
  split
  · (repeat' split) <;> exact h
  · exact h
  · split
    · exact h.frameComplete _
    · exact h
  all_goals exact h

theorem hostByte (b : Byte) (error : Bool) : (s.hostByte b error).FaultsLawful := by
  unfold State.hostByte
  split
  · split <;> exact h
  · exact h
  · exact h
  all_goals
    split
    · exact h
    · exact h.takeByte _

theorem transmitted : s.transmitted.FaultsLawful := by
  unfold State.transmitted
  split
  · exact h
  · exact h
  · split
    · exact h
    · unfold State.afterReply
      split
      · exact h
      · exact h
      · exact .afterReset _ _ _

end

end State.FaultsLawful

/-! ## Every command and every step -/

/-- Every command keeps the law of the Fault List. -/
theorem exec_faultsLawful {i : Instr} {s t : State} (h : s.FaultsLawful) (he : exec i s = .next t) :
    t.FaultsLawful := by
  cases howner : ownerOf i with
  | some owner =>
    obtain ⟨tag, kind, hexec⟩ := exec_request howner s
    cases hexec.symm.trans he
    exact h.request tag kind fun s hs => hs.owner howner
  | none =>
    have hat (due : Nat) : (s.at due).FaultsLawful := h
    cases i
    case hostFrameReceived bytes =>
      cases he
      exact .pump (foldl_induct (P := State.FaultsLawful) (fun t b ht => ht.hostByte b false) bytes h)
    case hostByteReceived b error => cases he; exact (h.hostByte b error).pump
    case powerOnReset high => cases he; exact .afterReset s _ _
    case pinReset high => cases he; exact .afterReset s _ _
    case fieldCharacterReceived c => cases he; exact (h.fieldChar c).pump
    case hostGapExpiry =>
      dsimp only [exec] at he; unfold execHostGapExpiry at he
      split at he <;> cases he
      · exact .pump h
      · exact h
    case transmitComplete =>
      dsimp only [exec] at he; unfold execTransmitComplete at he
      split at he <;> cases he
      · exact h
      · exact h.transmitted.pump
    case quietIntervalExpiry =>
      dsimp only [exec] at he; unfold execQuietIntervalExpiry at he
      split at he <;> cases he
      · exact .pump h
      · exact h
    case transmissionComplete =>
      dsimp only [exec] at he; unfold execTransmissionComplete at he
      split at he <;> cases he
      · exact .pump h
      · exact h
    case echoCollision =>
      dsimp only [exec] at he; unfold execEchoCollision at he
      split at he <;> cases he
      · exact h.collision.pump
      · exact h
    case replyWindowExpiry =>
      dsimp only [exec] at he; unfold execReplyWindowExpiry at he
      split at he <;> cases he
      · exact ((hat _).judged _ _ _).pump
      · exact h
    case replyFrameEnd rest =>
      dsimp only [exec] at he; unfold execReplyFrameEnd at he
      split at he <;> cases he
      · exact ((h.takeRest _ _).endTaken _).pump
      · exact h
    case unawaitedFrameEnd rest =>
      dsimp only [exec] at he; unfold execUnawaitedFrameEnd at he
      split at he <;> cases he
      · exact ((h.takeRest _ _).endTaken _).pump
      · exact h
    case fieldGapExpiry =>
      dsimp only [exec] at he; unfold execFieldGapExpiry at he
      split at he <;> cases he
      · exact ((hat _).frameEnd _ _).pump
      · exact h
    case guardExpiry =>
      dsimp only [exec] at he; unfold execGuardExpiry at he
      split at he <;> cases he
      · exact ((hat _).congr (State.guardDone_faults _)).pump
      · exact h
    case safeComplete =>
      dsimp only [exec] at he; unfold execSafeComplete at he
      split at he <;> cases he
      · exact (hat _).safeDone.pump
      · exact h
    case pacedWaitEnd =>
      dsimp only [exec] at he; unfold execPacedWaitEnd at he
      split at he <;> cases he
      · exact (hat _).applyPending.beginUnlessEmpty.pump
      · exact h
    case leaseExpiry =>
      dsimp only [exec] at he; unfold execLeaseExpiry at he
      split at he <;> cases he
      · exact ((hat _).expireLease _).pump
      all_goals exact h
    case deadlineExpiry id =>
      dsimp only [exec] at he; unfold execDeadlineExpiry at he
      split at he <;> cases he
      · exact .pump h
      · exact h
    all_goals cases howner

theorem State.FaultsLawful.tick {s : State} (h : s.FaultsLawful) : s.tick.FaultsLawful := by
  have hlater : State.FaultsLawful { s with now := s.now + 1 } := h
  unfold State.tick
  dsimp only
  split
  · exact hlater.endPhase.pump
  · exact hlater

/-- Settles O9: a raise, a mark, an application and an acknowledgement keep the law, and nothing else
changes the list but a reset. -/
theorem faultListStaysLawful : Obligations.FaultListStaysLawful := by
  intro s t h hstep
  unfold step at hstep
  split at hstep
  · next i rest _ =>
    have htaken : State.FaultsLawful { s with pending := rest } := h
    exact exec_faultsLawful htaken hstep
  · unfold idle at hstep
    split at hstep
    · exact exec_faultsLawful h hstep
    · cases hstep
      exact State.FaultsLawful.tick h

end Sys2Proof.Machine
end
